-- ==== Sys2Proof/Word.lean ====
section
/-! DEFINITION. The byte and the word types of the link's frames (R133, R192). -/

namespace Sys2Proof

/-- One byte, as one data symbol carries it (R132). -/
abbrev Byte := BitVec 8

/-- A two-byte field, for example a cycle number (R192). -/
abbrev Half := BitVec 16

/-- A four-byte field, for example a serial (R192). -/
abbrev Word := BitVec 32

/-- One sample of a block: 16 bits, two's complement (R192). -/
abbrev Sample := BitVec 16

end Sys2Proof
end

