-- ==== Sys2Proof/Syntax.lean ====
section
/-! DEFINITION. The commands of the block: one constructor for each row of spec/opcode_table.json. -/

namespace Sys2Proof

/-- The two link ports: U toward the pods, D toward the line controller. -/
inductive Port where
  | u | d
  deriving DecidableEq, Repr

/-- The two cycle records (R2). -/
inductive RecId where
  | a | b
  deriving DecidableEq, Repr

/-- The other record. -/
def RecId.other : RecId → RecId
  | .a => .b
  | .b => .a

/-- The two debounced inputs (R41). -/
inductive Input where
  | code | clamp
  deriving DecidableEq, Repr

/-- A new raw value on MID0-MID3 taken as one value, or on CLAMP, asserted or not (R41). -/
inductive RawInput where
  | code (value : Fin 16)
  | clamp (asserted : Bool)
  deriving DecidableEq, Repr

/-- How the signal lines are driven (R121). -/
inductive SigMode where
  | split | coded
  deriving DecidableEq, Repr

/-- The levels on the strap pins and on the identity inputs at the moment a reset ends (R43, R139; log 16). -/
structure Pins where
  sta     : BitVec 3
  rate    : BitVec 2
  sigMode : SigMode
  code    : Fin 16
  clamp   : Bool
  deriving DecidableEq, Repr

/-- The symbols that are stray between frames: a data symbol and END (R132). -/
inductive StraySymbol where
  | data (b : Byte)
  | frameEnd
  deriving DecidableEq, Repr

/-- A pod: pod p of the manual, 1-8, is the value p - 1 (R138, R144). -/
abbrev PodId := Fin 8

/-- The commands. A command that names a symbol delivers that symbol to its port, whatever the port's framing state (log 6);
a request command executes the request at the head of the inbox when it is of that row (log 7). -/
inductive Instr where
  /-- R184 -/
  | powerOnReset (pins : Pins)
  /-- R184 -/
  | lineReset (pins : Pins)
  /-- R135: the data symbols since the last command on the port, then END. -/
  | frameReceived (port : Port) (data : List Byte)
  /-- R135: the 247th byte of a frame. -/
  | frameOverlength (port : Port)
  /-- R132: a START inside a frame. -/
  | earlyStart (port : Port)
  /-- R132: a data symbol or END between frames. -/
  | straySymbol (port : Port) (symbol : StraySymbol)
  /-- R132 -/
  | codeViolation (port : Port)
  /-- R142 -/
  | holdReceived (port : Port)
  /-- R142 -/
  | goReceived (port : Port)
  /-- R142 -/
  | idleReceived (port : Port)
  /-- R137 -/
  | signalLost (port : Port)
  /-- R158 -/
  | portDFrameEnd
  /-- R155 -/
  | portUFrameEnd
  /-- R143 -/
  | stallTimerExpiry
  /-- R146 -/
  | silenceTimerExpiry (pod : PodId)
  /-- R12 -/
  | cycleTimerExpiry (record : RecId)
  /-- R13 -/
  | graceExpiry (record : RecId)
  /-- R81 -/
  | judgementCompletion
  /-- R26 -/
  | examineBlock
  /-- R42 -/
  | rawValueChange (value : RawInput)
  /-- R42 -/
  | debounceTimerExpiry (input : Input)
  /-- R182 -/
  | loadTimerExpiry
  /-- R173 -/
  | identify
  /-- R174 -/
  | readStatus
  /-- R172 -/
  | restart
  /-- R171 -/
  | halt
  /-- R170 -/
  | start
  /-- R175 -/
  | loadSetup
  /-- R176 -/
  | loadBandSets
  /-- R178 -/
  | loadChannels
  /-- R64 -/
  | loadMould
  /-- R179 -/
  | loadContinue
  /-- R181 -/
  | loadAbort
  /-- R69 -/
  | readMould
  /-- R50 -/
  | confirmMould
  /-- R110 -/
  | readSuspects
  /-- R106 -/
  | releaseSuspect
  /-- R89 -/
  | readCycle
  /-- R117 -/
  | clearConditions
  /-- R124 -/
  | setEnables
  /-- R187 -/
  | traceSelect
  /-- R188 -/
  | traceFreeze
  /-- R188 -/
  | traceUnfreeze
  /-- R189 -/
  | traceRead
  /-- R187 -/
  | traceOff
  /-- R165 -/
  | unknownRequest
  /-- R132: a START between frames. -/
  | frameStart (port : Port)
  deriving DecidableEq, Repr

end Sys2Proof
end

