-- ==== Sys2Proof/Config.lean ====
section
/-! DEFINITION. The fixed numbers of the part. -/

namespace Sys2Proof

namespace Config

/-- R173. -/
abbrev vendorCode : Nat := 3318
/-- R173. -/
abbrev partCode : Nat := 2416
/-- R173. -/
abbrev revision : Nat := 1

/-- R154. -/
abbrev forwardCapacity : Nat := 8
/-- R155. -/
abbrev upwardCapacity : Nat := 4
/-- R157: room for all own frames. -/
abbrev ownCapacity : Nat := 12
/-- R157: room for own frames that are not Replies. -/
abbrev nonReplyCapacity : Nat := 10
/-- R163. -/
abbrev inboxCapacity : Nat := 4
/-- R24. -/
abbrev examCapacity : Nat := 16
/-- R92. -/
abbrev suspectCapacity : Nat := 32
/-- R185. -/
abbrev ringCapacity : Nat := 64
/-- R158: how often an own head may be passed over. -/
abbrev passOverLimit : Nat := 3

/-- R137, in ms. -/
abbrev signalTimeout : Nat := 10
/-- R41, in ms. -/
abbrev debounceTime : Nat := 50
/-- R182: the load timer's value while the setup record is absent, in ms. -/
abbrev defaultLoadTimeout : Nat := 5000
/-- R133: the largest payload. -/
abbrev maxPayload : Nat := 240
/-- R135: the largest frame, header and CRC included. -/
abbrev maxFrame : Nat := 246
/-- R20 to R23: samples per second. -/
abbrev sampleRate : Nat := 48000

end Config

end Sys2Proof
end

