-- ==== Sys2Proof/Machine/Types.lean ====
section
/-! DEFINITION. The pieces State is made of, block by block, in the manual's own terms. -/

namespace Sys2Proof.Machine

/-- Four values, one for each of the bands 1-4 (R22). -/
structure Four (α : Type) where
  b1 : α
  b2 : α
  b3 : α
  b4 : α
  deriving DecidableEq, Repr

/-! ### Conditions (chapter 7) -/

/-- The fifteen conditions, in the order of their codes 1-15 (R113). -/
inductive Condition where
  | crack | suspect | watchLost | podSilent | mouldChanged | mouldUnknown | markOrder | cycleTimeout
  | driftLimit | listFull | forwardLoss | downstreamStall | queueOverrun | linkFault | loadTimeout
  deriving DecidableEq, Repr

/-- A condition's code less one: its place in a set of condition codes (R113, R192). -/
def Condition.index : Condition → Fin 15
  | .crack => 0 | .suspect => 1 | .watchLost => 2 | .podSilent => 3 | .mouldChanged => 4
  | .mouldUnknown => 5 | .markOrder => 6 | .cycleTimeout => 7 | .driftLimit => 8 | .listFull => 9
  | .forwardLoss => 10 | .downstreamStall => 11 | .queueOverrun => 12 | .linkFault => 13 | .loadTimeout => 14

/-- The conditions in code order (R113). -/
def Condition.all : List Condition :=
  [.crack, .suspect, .watchLost, .podSilent, .mouldChanged, .mouldUnknown, .markOrder, .cycleTimeout,
   .driftLimit, .listFull, .forwardLoss, .downstreamStall, .queueOverrun, .linkFault, .loadTimeout]

/-- A set of conditions: bit c - 1 stands for code c, as on the wire (R192). -/
abbrev CondSet := BitVec 15

/-- The set of one condition. -/
def Condition.bit (c : Condition) : CondSet :=
  BitVec.twoPow 15 c.index.val

/-- Is the condition in the set? -/
def Condition.isIn (c : Condition) (x : CondSet) : Bool :=
  x.getLsbD c.index.val

/-- The consequence a setup gives a condition (R119). -/
inductive CondClass where
  | none | advise | warn | stop
  deriving DecidableEq, Repr

/-- Flags and enables (R114, R124). -/
structure Conditions where
  flags   : CondSet
  enables : CondSet
  deriving DecidableEq, Repr

/-- The output lines: STOP (R120), and S0-S3 with S0 as bit 0 (R121, R122); 1 is asserted. -/
structure Lines where
  stop    : Bool
  signals : BitVec 4
  deriving DecidableEq, Repr

/-! ### Configuration tables (chapters 2 and 10) -/

/-- R153. -/
inductive ForwardPolicy where
  | all | tagged | none
  deriving DecidableEq, Repr

/-- R175, R190. -/
inductive TraceTrigger where
  | manual | onDeviate | onConfirm
  deriving DecidableEq, Repr

/-- A pod table entry (R144): the silence limit is in ms. -/
structure PodSetup where
  present : Bool
  limit   : Nat
  deriving DecidableEq, Repr

/-- The setup record (R175). The cycle limit is in tenths of a second, the other times in ms. -/
structure Setup where
  pods        : Vector PodSetup 8
  cycleLimit  : Nat
  closeGrace  : Nat
  blindLimit  : Nat
  stallLimit  : Nat
  loadTimeout : Nat
  reportEvery : Bool
  policy      : ForwardPolicy
  autoConfirm : Bool
  trigger     : TraceTrigger
  classes     : Vector CondClass 15
  deriving DecidableEq, Repr

/-- A channel table entry (R20). -/
structure ChannelEntry where
  pod            : PodId
  channel        : Fin 8
  watchPoint     : Fin 24
  bandSet        : Fin 8
  hitThreshold   : Nat
  deadSpan       : Nat
  decayThreshold : Nat
  forward        : Bool
  deriving DecidableEq, Repr

/-- One band's edges in hertz (R22). -/
structure Band where
  lower : Nat
  upper : Nat
  deriving DecidableEq, Repr

/-- R22. -/
abbrev BandSet := Four Band

/-- The configuration tables (R175, R20, R22). -/
structure Tables where
  setup    : Option Setup
  channels : List ChannelEntry
  bandSets : Vector (Option BandSet) 8
  deriving DecidableEq, Repr

/-! ### The examination queue (chapter 2) -/

/-- The phase tags that are examined (R24). -/
inductive ExamPhase where
  | vibe | ring | strip
  deriving DecidableEq, Repr

/-- An examination copy (R24). -/
structure Copy where
  pod      : PodId
  channel  : Fin 8
  cycleTag : Byte
  phase    : ExamPhase
  sequence : Byte
  samples  : List Sample
  entry    : Nat
  deriving DecidableEq, Repr

/-! ### Accumulators and cycle records (chapters 1 and 2) -/

/-- The channel entry that feeds an accumulator: its index and its pod (R29). -/
structure Mapping where
  entry : Nat
  pod   : PodId
  deriving DecidableEq, Repr

/-- An accepted VIBE block with the band set that was in force when it was examined (R32). -/
structure VibeBlock where
  bands   : BandSet
  samples : List Sample
  deriving DecidableEq, Repr

/-- The VIBE part of an accumulator (R29). `heard` holds the accepted blocks, oldest first: the band energy sums and the
filter states of R23 and R32 are exact functions of them (log 12). -/
structure VibePart where
  counted : Nat
  missing : Nat
  last    : Option Byte
  heard   : List VibeBlock
  deriving DecidableEq, Repr

/-- R35. -/
inductive RingState where
  | waiting | counting | ended | gap
  deriving DecidableEq, Repr

/-- The RING part of an accumulator (R29). -/
structure RingPart where
  state : RingState
  count : Nat
  last  : Option Byte
  deriving DecidableEq, Repr

/-- The STRIP part of an accumulator (R29). -/
structure StripPart where
  hits  : Nat
  carry : Nat
  last  : Option Byte
  deriving DecidableEq, Repr

/-- One accumulator of a moulded record (R29). -/
structure Accumulator where
  watchPoint : Fin 24
  mapping    : Option Mapping
  vibe       : VibePart
  ring       : RingPart
  strip      : StripPart
  deriving DecidableEq, Repr

/-- The phases of an OPEN record (R2). -/
inductive Phase where
  | fill | vibe | ring | strip | settle
  deriving DecidableEq, Repr

/-- The states of a cycle record; the phase is present only in OPEN (R2, R3). -/
inductive RecState where
  | free
  | opened (phase : Phase)
  | grace
  | wait
  | judging
  deriving DecidableEq, Repr

/-- The set of phases entered since the record opened (R3). -/
structure PhasesEntered where
  vibe   : Bool
  ring   : Bool
  strip  : Bool
  settle : Bool
  deriving DecidableEq, Repr

/-- A cycle record (R3). In FREE, `number` is the retained number. A timer holds the ms it was last started with, or none
when it is stopped (log 3). -/
structure CycleRecord where
  state      : RecState
  number     : Option Half
  slot       : Option (Fin 16)
  entered    : PhasesEntered
  silenced   : BitVec 8
  accs       : List Accumulator
  cycleTimer : Option Nat
  graceTimer : Option Nat
  deriving DecidableEq, Repr

/-- A FREE record that retains the given number (R3, R15). -/
def CycleRecord.freed (number : Option Half) : CycleRecord where
  state := .free
  number := number
  slot := none
  entered := ⟨false, false, false, false⟩
  silenced := 0
  accs := []
  cycleTimer := none
  graceTimer := none

/-- The cycle tracker (R2, R4). `lastClosed` is the model's own: the record whose CLOSE was taken last (log 4). -/
structure Tracker where
  a          : CycleRecord
  b          : CycleRecord
  untracked  : Option Half
  unsync     : Bool
  lastClosed : Option RecId
  deriving DecidableEq, Repr

/-- One of the two records. -/
def Tracker.get (t : Tracker) : RecId → CycleRecord
  | .a => t.a
  | .b => t.b

/-- Replace one of the two records. -/
def Tracker.put (t : Tracker) (i : RecId) (r : CycleRecord) : Tracker :=
  match i with
  | .a => { t with a := r }
  | .b => { t with b := r }

/-! ### The mould table (chapter 4) -/

/-- A masked band of a profile: its baselines and its tolerance in level units (R57, R58). -/
structure BandProfile where
  loaded    : Nat
  current   : Nat
  tolerance : Nat
  deriving DecidableEq, Repr

/-- The header of a mould record (R56). -/
structure MouldHeader where
  serial       : Word
  autoEligible : Bool
  k            : Nat
  n            : Nat
  driftShift   : Nat
  driftLimit   : Nat
  minVibe      : Nat
  gapLimit     : Nat
  w            : Nat
  deriving DecidableEq, Repr

/-- A watch point profile (R57): a band is in the mask when its place is present. -/
structure Profile where
  watchPoint  : Fin 24
  bands       : Four (Option BandProfile)
  hitLimit    : Option Nat
  ringWindow  : Option (Nat × Nat)
  blindStreak : Nat
  deriving DecidableEq, Repr

/-- The content of a LOADED slot (R55). -/
structure MouldRecord where
  header   : MouldHeader
  profiles : List Profile
  judged   : Nat
  deriving DecidableEq, Repr

/-! ### The mould monitor (chapter 3) -/

/-- A debouncer (R41). A timer holds the ms it was last started with. -/
structure Debouncer (α : Type) where
  raw       : α
  debounced : Option α
  candidate : Option α
  timer     : Option Nat
  deriving DecidableEq, Repr

/-- R44. -/
structure Snapshot where
  code  : Fin 16
  clamp : Bool
  deriving DecidableEq, Repr

/-- The mould state (R44). -/
inductive MouldState where
  | none
  | unconfirmed
  | confirmed (snapshot : Snapshot)
  deriving DecidableEq, Repr

/-- The mould monitor (R41, R44). -/
structure Monitor where
  code  : Debouncer (Fin 16)
  clamp : Debouncer Bool
  state : MouldState
  deriving DecidableEq, Repr

/-! ### Judgement and the suspect list (chapters 5 and 6) -/

/-- R75 to R80. -/
inductive Verdict where
  | skip | blind | deviate | clean
  deriving DecidableEq, Repr

/-- A deviation set: bands 1-4 at bits 0-3, hits at bit 4, ring at bit 5 (R192). -/
abbrev DevSet := BitVec 6

/-- A set of blind causes: SILENT POD at bit 0, FEW BLOCKS at bit 1, GAPS at bit 2 (R76, R192). -/
abbrev BlindSet := BitVec 3

/-- A judged result in a window (R93). -/
inductive Judged where
  | deviate | clean
  deriving DecidableEq, Repr

/-- R93. -/
inductive SuspectState where
  | suspect | confirmed
  deriving DecidableEq, Repr

/-- A suspect entry (R93); the window is oldest first. -/
structure SuspectEntry where
  slot           : Fin 16
  watchPoint     : Fin 24
  state          : SuspectState
  firstCycle     : Half
  window         : List Judged
  lastDev        : DevSet
  confirmedCycle : Option Half
  deriving DecidableEq, Repr

/-- The suspect state after judgement (R83). -/
inductive Standing where
  | notListed | suspect | confirmed | listFull
  deriving DecidableEq, Repr

/-- A profile's part of the last-judged summary (R88). `ringDown` is none for CUT. -/
structure SummaryEntry where
  watchPoint : Fin 24
  verdict    : Verdict
  levels     : Four Nat
  hits       : Nat
  ringDown   : Option Nat
  deviations : DevSet
  ringCut    : Bool
  blind      : BlindSet
  counted    : Nat
  missing    : Nat
  standing   : Standing
  deriving DecidableEq, Repr

/-- The last-judged summary (R88). -/
structure Summary where
  cycle   : Half
  slot    : Fin 16
  serial  : Word
  entries : List SummaryEntry
  deriving DecidableEq, Repr

/-- The record being judged, and the mould record as it stood when the judgement started (R72, R73). -/
structure Judging where
  record : RecId
  mould  : MouldRecord
  deriving DecidableEq, Repr

/-- The verdict unit (R72, R88). -/
structure VerdictUnit where
  judging : Option Judging
  summary : Option Summary
  deriving DecidableEq, Repr

/-! ### Links and pods (chapter 8) -/

/-- A receiver's framing state (R132, R135): the bytes of the frame in progress, oldest first. -/
inductive Framing where
  | between
  | inFrame (bytes : List Byte)
  | discarding
  deriving DecidableEq, Repr

/-- R137. -/
inductive Signal where
  | present | lost
  deriving DecidableEq, Repr

/-- A received flow state (R142). -/
inductive RxFlow where
  | held | released
  deriving DecidableEq, Repr

/-- A sent flow state (R141). -/
inductive TxFlow where
  | go | hold
  deriving DecidableEq, Repr

/-- The symbols of a port (R132). -/
inductive Symbol where
  | start | frameEnd | hold | go | idle
  | data (b : Byte)
  deriving DecidableEq, Repr

/-- A frame that a transmitter is sending (R133): all its bytes, and how many of its symbols have been sent, START and END
counted. -/
structure Outgoing where
  bytes : List Byte
  place : Nat
  deriving DecidableEq, Repr

/-- A frame whose START is still to be sent. -/
def Outgoing.start (bytes : List Byte) : Outgoing := ⟨bytes, 0⟩

/-- A link port. `flowDue` says that the sent flow state has changed and its symbol is sent at the next symbol boundary (R141).
`tx` is the frame the transmitter is sending, or none when it is idle (R133). `sent` is what the transmitter sent last, in
order: one symbol at a symbol boundary, or at the end of a frame all that was left of it (log 17). -/
structure LinkPort where
  framing     : Framing
  signal      : Signal
  signalTimer : Option Nat
  rxFlow      : RxFlow
  txFlow      : TxFlow
  flowDue     : Bool
  tx          : Option Outgoing
  sent        : List Symbol
  deriving DecidableEq, Repr

/-- The stall timing of port D (R143): the timer of this held stretch, and whether this stretch has raised DOWNSTREAM
STALL and still lasts. -/
structure Stall where
  timer   : Option Nat
  stalled : Bool
  deriving DecidableEq, Repr

/-- R144. -/
inductive PodState where
  | live | silent
  deriving DecidableEq, Repr

/-- A silence timer (R146, R148); running holds the ms it was started with. -/
inductive SilenceTimer where
  | stopped
  | running (ms : Nat)
  | suspended
  deriving DecidableEq, Repr

/-- What the pod monitor holds for one pod (R144). -/
structure Pod where
  state : PodState
  timer : SilenceTimer
  deriving DecidableEq, Repr

/-! ### The trace buffer (chapter 11) -/

/-- The trace buffer (R185): the traced channel is an entry index, the ring is oldest first. -/
inductive Trace where
  | off
  | running (channel : Nat) (ring : List Copy)
  | frozen (channel : Nat) (ring : List Copy)
  deriving DecidableEq, Repr

/-! ### The management engine (chapter 10) -/

/-- R168. -/
inductive OpState where
  | halted | watching
  deriving DecidableEq, Repr

/-- R173. -/
inductive ResetCause where
  | power | line | restart
  deriving DecidableEq, Repr

/-- A Management Request as the router hands it over (R163, R194). -/
structure Request where
  source : Byte
  name   : Byte
  tag    : Byte
  body   : List Byte
  deriving DecidableEq, Repr

/-- A staged channel record, its fields not yet checked (R178). -/
structure RawChannel where
  pod            : Nat
  channel        : Nat
  watchPoint     : Nat
  bandSet        : Nat
  hitThreshold   : Nat
  deadSpan       : Nat
  decayThreshold : Nat
  forward        : Nat
  deriving DecidableEq, Repr

/-- A staged mould header, its fields not yet checked (R64). -/
structure RawHeader where
  serial       : Word
  autoEligible : Nat
  k            : Nat
  n            : Nat
  driftShift   : Nat
  driftLimit   : Nat
  minVibe      : Nat
  gapLimit     : Nat
  w            : Nat
  deriving DecidableEq, Repr

/-- A staged profile, its fields not yet checked (R64). Each band place is loaded baseline and tolerance. -/
structure RawProfile where
  watchPoint  : Nat
  bandMask    : Nat
  bands       : Four (Nat × Nat)
  hitPresence : Nat
  hitLimit    : Nat
  ringPresence : Nat
  ringLo      : Nat
  ringHi      : Nat
  deriving DecidableEq, Repr

/-- The staging area of an open load, with its kind (R177). -/
inductive Staging where
  | channels (records : List RawChannel)
  | mould (slot : Fin 16) (header : RawHeader) (profiles : List RawProfile)
  deriving DecidableEq, Repr

/-- The open load (R177); the timer holds the ms it was last started with (R182). -/
structure OpenLoad where
  staging   : Staging
  declared  : Nat
  remaining : Nat
  timer     : Nat
  deriving DecidableEq, Repr

/-- R166: which kind of load is open. -/
inductive LoadKind where
  | channels | mould
  deriving DecidableEq, Repr

/-- The kind of an open load. -/
def OpenLoad.kind (l : OpenLoad) : LoadKind :=
  match l.staging with
  | .channels _ => .channels
  | .mould _ _ _ => .mould

/-- The management engine (R163, R168, R173, R177). -/
structure Engine where
  operating : OpState
  inbox     : List Request
  load      : Option OpenLoad
  cause     : ResetCause
  deriving DecidableEq, Repr

/-- The straps as sampled (R121, R139). -/
structure Straps where
  sta     : BitVec 3
  rate    : BitVec 2
  sigMode : SigMode
  deriving DecidableEq, Repr

/-- The part's station address: 16 plus the STA value (R139). -/
def Straps.station (p : Straps) : Byte :=
  16#8 + p.sta.setWidth 8

/-! ### Own frames (chapters 5, 7, 10 and 12) -/

/-- The reasons of REFUSED (R166), in the order of their codes 1-14 (R194). -/
inductive Reason where
  | noSetup | noChannels | podAbsent | bandSetAbsent | fieldRange | duplicateSlot | duplicateChannel
  | duplicateWatchPoint | watchPointOrder | kAboveN | noClamp | codeMismatch | emptySlot | serialMismatch
  deriving DecidableEq, Repr

/-- What Identify reports (R173). -/
structure Identity where
  station : Byte
  straps  : Straps
  cause   : ResetCause
  deriving DecidableEq, Repr

/-- What Read Status reports of a cycle record (R174). -/
structure RecReport where
  state  : RecState
  number : Option Half
  deriving DecidableEq, Repr

/-- What Read Status reports of the open load (R174). -/
structure LoadReport where
  kind      : LoadKind
  slot      : Option (Fin 16)
  remaining : Nat
  deriving DecidableEq, Repr

/-- What Read Status and every Notice report of the mould (R53, R128, R174). -/
structure MouldReport where
  state : MouldState
  slot  : Option (Fin 16)
  deriving DecidableEq, Repr

/-- What Read Status reports of the trace buffer (R174, R185). -/
structure TraceReport where
  state   : Fin 3
  channel : Option Nat
  deriving DecidableEq, Repr

/-- What Read Status reports of a link port (R174). -/
structure LinkReport where
  signal : Signal
  rxFlow : RxFlow
  txFlow : TxFlow
  deriving DecidableEq, Repr

/-- The body of a Read Status Reply (R174). -/
structure StatusReport where
  operating  : OpState
  load       : Option LoadReport
  mould      : MouldReport
  code       : Option (Fin 16)
  clamp      : Option Bool
  slots      : Vector Bool 16
  conditions : Conditions
  recA       : RecReport
  recB       : RecReport
  exam       : Nat
  forward    : Nat
  upward     : Nat
  own        : Nat
  nonReplies : Nat
  inbox      : Nat
  suspects   : Nat
  trace      : TraceReport
  pods       : Vector (Bool × PodState) 8
  linkU      : LinkReport
  linkD      : LinkReport
  deriving DecidableEq, Repr

/-- The bodies of OK, one for each request whose rule names data. -/
inductive OkBody where
  /-- no data -/
  | empty
  /-- R173 -/
  | identity (x : Identity)
  /-- R174 -/
  | status (x : StatusReport)
  /-- R169: the operating state after the action and the states of both records -/
  | control (operating : OpState) (a b : RecState)
  /-- R172 -/
  | restarted (operating : OpState) (cause : ResetCause)
  /-- R69 -/
  | mould (header : MouldHeader) (judged : Nat) (page : List Profile) (next : Option (Fin 24))
  /-- R51 -/
  | confirmed (slot : Fin 16) (serial : Word)
  /-- R110: each entry with its entry index -/
  | suspects (total : Nat) (page : List (Nat × SuspectEntry))
  /-- R106 -/
  | released (entry : SuspectEntry) (left : Nat) (wrote : Bool)
  /-- R89 -/
  | cycle (cycle : Half) (slot : Fin 16) (serial : Word) (count : Nat) (page : List SummaryEntry)
      (next : Option (Fin 24))
  /-- R117 -/
  | cleared (kept set : CondSet)
  /-- R124 -/
  | enables (enables flags : CondSet)
  /-- R189 -/
  | traced (held channel index : Nat) (block : Copy)
  deriving DecidableEq, Repr

/-- A status together with its body (R166). -/
inductive Answer where
  | ok (body : OkBody)
  | more (remaining : Nat)
  | done (count : Nat)
  | badState (operating : OpState)
  | badArgument
  | inUse (slot : Fin 16)
  | loadOpen (kind : LoadKind) (remaining : Nat)
  | noLoad
  | notFound
  | refused (reason : Reason) (item : Nat)
  deriving DecidableEq, Repr

/-- A Reply (R164): its destination is the request's source. -/
structure Reply where
  dest   : Byte
  name   : Byte
  tag    : Byte
  answer : Answer
  deriving DecidableEq, Repr

/-- A result as a Finding lists it (R86). -/
structure FindingResult where
  watchPoint : Fin 24
  verdict    : Verdict
  deviations : DevSet
  ringCut    : Bool
  standing   : Standing
  deriving DecidableEq, Repr

/-- A Finding (R86). -/
structure Finding where
  cycle   : Half
  slot    : Fin 16
  serial  : Word
  results : List FindingResult
  deriving DecidableEq, Repr

/-- A Notice (R128). -/
structure Notice where
  conditions : Conditions
  operating  : OpState
  mould      : MouldReport
  deriving DecidableEq, Repr

/-- An own frame (R157). -/
inductive OwnFrame where
  | reply (x : Reply)
  | finding (x : Finding)
  | notice (x : Notice)
  deriving DecidableEq, Repr

/-- R157: is the own frame a Reply? -/
def OwnFrame.isReply : OwnFrame → Bool
  | .reply _ => true
  | .finding _ => false
  | .notice _ => false

/-- The queues of the forwarding blocks and the arbiter's pass-over count (R154, R155, R157, R158). A carried frame is
its bytes, header and CRC included (R133). -/
structure Paths where
  forward  : List (List Byte)
  upward   : List (List Byte)
  own      : List OwnFrame
  passOver : Nat
  deriving DecidableEq, Repr

end Sys2Proof.Machine
end

