-- ==== Sys2Proof/Machine/State.lean ====
section
/-! DEFINITION. The state of the block, the reasons a step could stop, and the state after reset. -/

namespace Sys2Proof.Machine

/-- The whole state of the part, block by block, and the commands that wait. -/
structure State where
  pending  : List Instr
  engine   : Engine
  straps   : Straps
  tables   : Tables
  tracker  : Tracker
  exam     : List Copy
  moulds   : Vector (Option MouldRecord) 16
  monitor  : Monitor
  suspects : List SuspectEntry
  verdict  : VerdictUnit
  cond     : Conditions
  lines    : Lines
  portU    : LinkPort
  portD    : LinkPort
  stall    : Stall
  pods     : Vector Pod 8
  paths    : Paths
  trace    : Trace
  deriving DecidableEq, Repr

/-- The manual names no event that stops the part, so there is no fault: every command has a next state. -/
inductive Fault where
  deriving DecidableEq, Repr

/-- The reasons for which a command is refused. -/
inductive Refusal where
  /-- A row of the table that has no meaning yet; raised by `exec` alone. Safe. No arm raises it now. -/
  | notModelled (mnemonic : String)
  deriving DecidableEq, Repr

/-- A link port after a power-on or line reset (R140): the transmitter sends IDLE from the end of the reset onward (R133). -/
def LinkPort.reset : LinkPort where
  framing := .between
  signal := .present
  signalTimer := some Config.signalTimeout
  rxFlow := .released
  txFlow := .go
  flowDue := false
  tx := none
  sent := [.idle]

/-- A debouncer after a power-on or line reset: a first period on the raw value presented (R43). -/
def Debouncer.reset {α : Type} (raw : α) : Debouncer α where
  raw := raw
  debounced := none
  candidate := some raw
  timer := some Config.debounceTime

/-- A pod's state after every reset: LIVE with its timer stopped (R144). -/
def Pod.reset : Pod := ⟨.live, .stopped⟩

/-- The tracker after every reset (R4, R19). -/
def Tracker.reset : Tracker where
  a := CycleRecord.freed none
  b := CycleRecord.freed none
  untracked := none
  unsync := false
  lastClosed := none

/-- The state after a power-on or line reset that ends with the given levels on the pins (R19, R40, R43, R54, R88, R112,
R129, R139, R140, R144, R161, R184, R185). The waiting commands are the sender's, and stay (log 16). -/
def State.afterReset (cause : ResetCause) (pins : Pins) (pending : List Instr) : State where
  pending := pending
  engine := ⟨.halted, [], none, cause⟩
  straps := ⟨pins.sta, pins.rate, pins.sigMode⟩
  tables := ⟨none, [], Vector.replicate 8 none⟩
  tracker := Tracker.reset
  exam := []
  moulds := Vector.replicate 16 none
  monitor := ⟨Debouncer.reset pins.code, Debouncer.reset pins.clamp, .none⟩
  suspects := []
  verdict := ⟨none, none⟩
  cond := ⟨0, 0⟩
  lines := ⟨false, 0⟩
  portU := LinkPort.reset
  portD := LinkPort.reset
  stall := ⟨none, false⟩
  pods := Vector.replicate 8 Pod.reset
  paths := ⟨[], [], [], 0⟩
  trace := .off

/-- The levels on the pins in `State.reset`: every line released, SIGMODE split. DESIGN CHOICE (log 15), unsafe: the manual
gives the pins no level of their own. -/
def Pins.atReset : Pins := ⟨0, 0, .split, 0, false⟩

/-- The part right after a power-on reset, with no command waiting. -/
def State.reset : State :=
  State.afterReset .power Pins.atReset []

/-! ### One update for each field -/

/-- The state with another `pending`. -/
def State.setPending (s : State) (x : List Instr) : State := { s with pending := x }

/-- The state with another `engine`. -/
def State.setEngine (s : State) (x : Engine) : State := { s with engine := x }

/-- The state with another `straps`. -/
def State.setStraps (s : State) (x : Straps) : State := { s with straps := x }

/-- The state with another `tables`. -/
def State.setTables (s : State) (x : Tables) : State := { s with tables := x }

/-- The state with another `tracker`. -/
def State.setTracker (s : State) (x : Tracker) : State := { s with tracker := x }

/-- The state with another `exam`. -/
def State.setExam (s : State) (x : List Copy) : State := { s with exam := x }

/-- The state with another `moulds`. -/
def State.setMoulds (s : State) (x : Vector (Option MouldRecord) 16) : State := { s with moulds := x }

/-- The state with another `monitor`. -/
def State.setMonitor (s : State) (x : Monitor) : State := { s with monitor := x }

/-- The state with another `suspects`. -/
def State.setSuspects (s : State) (x : List SuspectEntry) : State := { s with suspects := x }

/-- The state with another `verdict`. -/
def State.setVerdict (s : State) (x : VerdictUnit) : State := { s with verdict := x }

/-- The state with another `cond`. -/
def State.setCond (s : State) (x : Conditions) : State := { s with cond := x }

/-- The state with another `lines`. -/
def State.setLines (s : State) (x : Lines) : State := { s with lines := x }

/-- The state with another `portU`. -/
def State.setPortU (s : State) (x : LinkPort) : State := { s with portU := x }

/-- The state with another `portD`. -/
def State.setPortD (s : State) (x : LinkPort) : State := { s with portD := x }

/-- The state with another `stall`. -/
def State.setStall (s : State) (x : Stall) : State := { s with stall := x }

/-- The state with another `pods`. -/
def State.setPods (s : State) (x : Vector Pod 8) : State := { s with pods := x }

/-- The state with another `paths`. -/
def State.setPaths (s : State) (x : Paths) : State := { s with paths := x }

/-- The state with another `trace`. -/
def State.setTrace (s : State) (x : Trace) : State := { s with trace := x }

end Sys2Proof.Machine
end

