-- ==== Sys2Proof/Machine/Operands.lean ====
section
/-! DEFINITION. What arrives: frames and their check value, Sample and Mark payloads, and the bodies of requests, byte by
byte (R133, R134, R192, R193, R194). -/

namespace Sys2Proof.Machine

/-! ### Bytes -/

/-- The byte at an offset, as a number; 0 past the end. -/
def byteAt (b : List Byte) (i : Nat) : Nat := (b.getD i 0).toNat

/-- The two-byte field at an offset, most significant byte first (R192). -/
def halfAt (b : List Byte) (i : Nat) : Nat := byteAt b i * 256 + byteAt b (i + 1)

/-- The four-byte field at an offset, most significant byte first (R192). -/
def wordAt (b : List Byte) (i : Nat) : Nat := halfAt b i * 65536 + halfAt b (i + 2)

/-- Is a number in a range that includes both ends? -/
def inRange (lo hi x : Nat) : Bool := lo ≤ x && x ≤ hi

/-- Is a byte a yes/no value (R192)? -/
def isYesNo (x : Nat) : Bool := x ≤ 1

/-! ### The check value (R134) -/

/-- One bit of the register's advance, by x^16 + x^12 + x^5 + 1. -/
def crcShift (r : Half) : Half :=
  if r.msb then (r <<< 1) ^^^ 0x1021#16 else r <<< 1

/-- One byte into the register, most significant bit first. -/
def crcByte (r : Half) (b : Byte) : Half :=
  (List.range 8).foldl (fun r _ => crcShift r) (r ^^^ (b.setWidth 16 <<< 8))

/-- The CRC of a list of bytes (R134). -/
def crc (bytes : List Byte) : Half :=
  bytes.foldl crcByte 0xFFFF#16

/-! ### Received frames -/

/-- A received frame, cut into its fields (R133, R192); `bytes` is the whole frame as received. -/
structure Frame where
  kind    : Byte
  dest    : Byte
  source  : Byte
  payload : List Byte
  bytes   : List Byte
  deriving DecidableEq, Repr

/-- The four checks of R135 in their order; all four failures discard the frame alike. -/
def goodFrame (bytes : List Byte) : Bool :=
  6 ≤ bytes.length &&
  byteAt bytes 3 ≤ Config.maxPayload &&
  bytes.length == 6 + byteAt bytes 3 &&
  (crc (bytes.take (bytes.length - 2))).toNat == halfAt bytes (bytes.length - 2)

/-- The fields of a frame that passed its checks. -/
def frameOf (bytes : List Byte) : Frame where
  kind := bytes.getD 0 0
  dest := bytes.getD 1 0
  source := bytes.getD 2 0
  payload := (bytes.drop 4).take (byteAt bytes 3)
  bytes := bytes

/-- R192. -/
def kindSample : Byte := 1
/-- R192. -/
def kindMark : Byte := 3
/-- R192. -/
def kindRequest : Byte := 5

/-- R138. -/
def addrController : Byte := 0
/-- R138. -/
def addrAll : Byte := 31

/-- R138: 1-8. -/
def isPodAddr (a : Byte) : Bool := inRange 1 8 a.toNat

/-- R138: 16-23. -/
def isMonitorAddr (a : Byte) : Bool := inRange 16 23 a.toNat

/-- R138: a value that names a station. -/
def isStation (a : Byte) : Bool :=
  a == addrController || isPodAddr a || isMonitorAddr a || a == addrAll

/-- The pod of a pod's address (R138). -/
def podOf (a : Byte) : Option PodId :=
  if h : 1 ≤ a.toNat ∧ a.toNat ≤ 8 then some ⟨a.toNat - 1, by omega⟩ else none

/-- R193. -/
def sampleLength : Nat := 68
/-- R193. -/
def markLength : Nat := 3

/-- The samples of a Sample frame's payload (R193). -/
def samplesOf (payload : List Byte) : List Sample :=
  (List.range 32).map fun i => BitVec.ofNat 16 (halfAt payload (4 + 2 * i))

/-- The phase tag, when it is one that is examined (R24, R193). -/
def examPhaseOf (payload : List Byte) : Option ExamPhase :=
  match byteAt payload 2 with
  | 2 => some .vibe
  | 3 => some .ring
  | 4 => some .strip
  | _ => none

/-- Does a Sample frame match a channel entry (R21)? -/
def ChannelEntry.matchesFrame (e : ChannelEntry) (f : Frame) : Bool :=
  f.source.toNat == e.pod.val + 1 && byteAt f.payload 0 == e.channel.val

/-- The first entry index a Sample frame matches (R21); no two entries match one frame. -/
def matchEntry (channels : List ChannelEntry) (f : Frame) : Option Nat :=
  channels.findIdx? fun e => e.matchesFrame f

/-- The examination copy a Sample frame yields (R24), when it matches an entry and its phase is examined. -/
def copyOf (channels : List ChannelEntry) (f : Frame) : Option Copy :=
  match matchEntry channels f, examPhaseOf f.payload with
  | some i, some phase =>
    match channels[i]? with
    | some e =>
      some
        { pod := e.pod
          channel := e.channel
          cycleTag := f.payload.getD 1 0
          phase := phase
          sequence := f.payload.getD 3 0
          samples := samplesOf f.payload
          entry := i }
    | none => none
  | _, _ => none

/-- The seven Mark kinds (chapter 1). -/
inductive MarkKind where
  | opening | vibeOn | vibeOff | stripStart | stripEnd | close | abort
  deriving DecidableEq, Repr

/-- R193; none for a kind that is not taken (R1). -/
def markKindOf (payload : List Byte) : Option MarkKind :=
  match byteAt payload 0 with
  | 1 => some .opening
  | 2 => some .vibeOn
  | 3 => some .vibeOff
  | 4 => some .stripStart
  | 5 => some .stripEnd
  | 6 => some .close
  | 7 => some .abort
  | _ => none

/-- The cycle number of a Mark (R193). -/
def markCycleOf (payload : List Byte) : Half := BitVec.ofNat 16 (halfAt payload 1)

/-- The request in a Management Request's payload (R194). -/
def requestOf (f : Frame) : Request where
  source := f.source
  name := f.payload.getD 0 0
  tag := f.payload.getD 1 0
  body := f.payload.drop 2

/-! ### The rows of requests (R165 check 1, R194) -/

/-- The row of a Control by its action byte (R169, R194): RESTART at weight 1, HALT at 2, START at 4, the highest-ranked
action performed; no action or any other bit is BAD ARGUMENT. -/
def controlRow (actions : Nat) : Instr :=
  if actions = 0 ∨ 7 < actions then .unknownRequest
  else if actions % 2 = 1 then .restart
  else if actions / 2 % 2 = 1 then .halt
  else .start

/-- Bytes of a channel record (R194). -/
def channelSize : Nat := 10
/-- Bytes of a mould profile: watch point, mask, four places of two values, hit limit, ring window (R192, R194). -/
def profileSize : Nat := 23
/-- Bytes of a setup record (R175, R192). -/
def setupSize : Nat := 52
/-- Bytes of a slot and its band set (R176, R192). -/
def pairSize : Nat := 17

/-- Has a Load Continue body the length its record count requires (R179)? With no load open the kind of its records is not
known: either kind's length passes (DESIGN CHOICE, log 9), and check 2 then answers NO LOAD. -/
def continueLength (load : Option OpenLoad) (body : List Byte) : Bool :=
  1 ≤ body.length &&
    match load with
    | none =>
      body.length == 1 + channelSize * byteAt body 0 || body.length == 1 + profileSize * byteAt body 0
    | some l =>
      match l.kind with
      | .channels => body.length == 1 + channelSize * byteAt body 0
      | .mould => body.length == 1 + profileSize * byteAt body 0

/-- The row that a body of the right length gives, and UNKNOWN_REQUEST otherwise (R165 check 1). -/
def rowIf (lengthSuits : Bool) (row : Instr) : Instr :=
  if lengthSuits then row else .unknownRequest

/-- The row of the table that executes a request: by its name, and by whether its body has the length the name requires
for the counts it declares (R165, R194). -/
def requestRow (load : Option OpenLoad) (r : Request) : Instr :=
  let b := r.body
  let n := r.body.length
  match r.name.toNat with
  | 1 => rowIf (n == 0) .identify
  | 2 => rowIf (n == 0) .readStatus
  | 3 => if n = 1 then controlRow (byteAt b 0) else .unknownRequest
  | 4 => rowIf (n == setupSize) .loadSetup
  | 5 => rowIf (1 ≤ n && n == 1 + pairSize * byteAt b 0) .loadBandSets
  | 6 => rowIf (2 ≤ n && n == 2 + channelSize * byteAt b 1) .loadChannels
  | 7 => rowIf (15 ≤ n && n == 15 + profileSize * byteAt b 14) .loadMould
  | 8 => rowIf (continueLength load b) .loadContinue
  | 9 => rowIf (n == 0) .loadAbort
  | 10 => rowIf (n == 2) .readMould
  | 11 => rowIf (n == 5) .confirmMould
  | 12 => rowIf (n == 1) .readSuspects
  | 13 => rowIf (n == 3) .releaseSuspect
  | 14 => rowIf (n == 1) .readCycle
  | 15 => rowIf (n == 2) .clearConditions
  | 16 => rowIf (n == 2) .setEnables
  | 17 => rowIf (n == 1) .traceSelect
  | 18 => rowIf (n == 0) .traceFreeze
  | 19 => rowIf (n == 0) .traceUnfreeze
  | 20 => rowIf (n == 1) .traceRead
  | 21 => rowIf (n == 0) .traceOff
  | _ => .unknownRequest

/-! ### The setup record (R175) -/

/-- R192: a choice among the classes. -/
def classOf : Nat → CondClass
  | 0 => .none
  | 1 => .advise
  | 2 => .warn
  | _ => .stop

/-- R192: a choice among the forward policies. -/
def policyOf : Nat → ForwardPolicy
  | 0 => .all
  | 1 => .tagged
  | _ => .none

/-- R192: a choice among the trace triggers. -/
def triggerOf : Nat → TraceTrigger
  | 0 => .manual
  | 1 => .onDeviate
  | _ => .onConfirm

/-- Whether each of the items 1-32 of a setup record is in its range, in item order (R175). -/
def setupItems (b : List Byte) : List Bool :=
  ((List.range 8).map fun i => isYesNo (byteAt b (3 * i)) && inRange 5 1000 (halfAt b (3 * i + 1))) ++
  [inRange 10 6000 (halfAt b 24),
   inRange 0 500 (halfAt b 26),
   inRange 1 15 (byteAt b 28),
   inRange 10 2000 (halfAt b 29),
   inRange 100 5000 (halfAt b 31),
   isYesNo (byteAt b 33),
   inRange 0 2 (byteAt b 34),
   isYesNo (byteAt b 35),
   inRange 0 2 (byteAt b 36)] ++
  ((List.range 15).map fun i => inRange 0 3 (byteAt b (37 + i)))

/-- The first item out of range, numbered as R175 numbers them. -/
def setupFault (b : List Byte) : Option Nat :=
  ((setupItems b).findIdx? fun ok => !ok).map (· + 1)

/-- A pod table entry of a setup record. -/
def podSetupOf (b : List Byte) (i : Nat) : PodSetup :=
  ⟨byteAt b (3 * i) == 1, halfAt b (3 * i + 1)⟩

/-- The setup record a body spells (R175). -/
def setupOf (b : List Byte) : Setup where
  pods := #v[podSetupOf b 0, podSetupOf b 1, podSetupOf b 2, podSetupOf b 3,
             podSetupOf b 4, podSetupOf b 5, podSetupOf b 6, podSetupOf b 7]
  cycleLimit := halfAt b 24
  closeGrace := halfAt b 26
  blindLimit := byteAt b 28
  stallLimit := halfAt b 29
  loadTimeout := halfAt b 31
  reportEvery := byteAt b 33 == 1
  policy := policyOf (byteAt b 34)
  autoConfirm := byteAt b 35 == 1
  trigger := triggerOf (byteAt b 36)
  classes := #v[classOf (byteAt b 37), classOf (byteAt b 38), classOf (byteAt b 39), classOf (byteAt b 40),
                classOf (byteAt b 41), classOf (byteAt b 42), classOf (byteAt b 43), classOf (byteAt b 44),
                classOf (byteAt b 45), classOf (byteAt b 46), classOf (byteAt b 47), classOf (byteAt b 48),
                classOf (byteAt b 49), classOf (byteAt b 50), classOf (byteAt b 51)]

/-! ### Band sets (R176) -/

/-- A slot number and its band set, as given. -/
structure BandPair where
  slot  : Nat
  bands : BandSet
  deriving DecidableEq, Repr

/-- A band at an offset. -/
def bandAt (b : List Byte) (i : Nat) : Band := ⟨halfAt b i, halfAt b (i + 2)⟩

/-- A pair at an offset. -/
def pairAt (b : List Byte) (i : Nat) : BandPair :=
  ⟨byteAt b i, ⟨bandAt b (i + 1), bandAt b (i + 5), bandAt b (i + 9), bandAt b (i + 13)⟩⟩

/-- The pairs of a Load Band Sets body. -/
def pairsOf (b : List Byte) : List BandPair :=
  (List.range (byteAt b 0)).map fun i => pairAt b (1 + pairSize * i)

/-- Are a band's edges in range, the lower below the upper (R22, R176)? -/
def Band.inRange (x : Band) : Bool :=
  Machine.inRange 10 20000 x.lower && Machine.inRange 10 20000 x.upper && x.lower < x.upper

/-- Is a pair in range (R176)? -/
def BandPair.inRange (x : BandPair) : Bool :=
  x.slot < 8 && x.bands.b1.inRange && x.bands.b2.inRange && x.bands.b3.inRange && x.bands.b4.inRange

/-- The first pair that fails, with the reason and its position counted from `i` (R176). -/
def pairsFault : List BandPair → List Nat → Nat → Option (Reason × Nat)
  | [], _, _ => none
  | x :: xs, seen, i =>
    if !x.inRange then some (.fieldRange, i)
    else if seen.contains x.slot then some (.duplicateSlot, i)
    else pairsFault xs (x.slot :: seen) (i + 1)

/-! ### Channel records (R178, R180) -/

/-- The channel record at an offset (R20, R194). -/
def rawChannelAt (b : List Byte) (i : Nat) : RawChannel where
  pod := byteAt b i
  channel := byteAt b (i + 1)
  watchPoint := byteAt b (i + 2)
  bandSet := byteAt b (i + 3)
  hitThreshold := halfAt b (i + 4)
  deadSpan := byteAt b (i + 6)
  decayThreshold := halfAt b (i + 7)
  forward := byteAt b (i + 9)

/-- `n` channel records from an offset. -/
def rawChannelsAt (b : List Byte) (off n : Nat) : List RawChannel :=
  (List.range n).map fun i => rawChannelAt b (off + channelSize * i)

/-- The channel entry of a record whose fields all lie in their ranges (R20, R180). -/
def RawChannel.entry? (x : RawChannel) : Option ChannelEntry :=
  if h : (1 ≤ x.pod ∧ x.pod ≤ 8) ∧ x.channel < 8 ∧ x.watchPoint < 24 ∧ x.bandSet < 8 then
    if inRange 1 32767 x.hitThreshold && inRange 1 255 x.deadSpan && inRange 0 2047 x.decayThreshold &&
        isYesNo x.forward then
      some
        { pod := ⟨x.pod - 1, by omega⟩
          channel := ⟨x.channel, h.2.1⟩
          watchPoint := ⟨x.watchPoint, h.2.2.1⟩
          bandSet := ⟨x.bandSet, h.2.2.2⟩
          hitThreshold := x.hitThreshold
          deadSpan := x.deadSpan
          decayThreshold := x.decayThreshold
          forward := x.forward == 1 }
    else none
  else none

/-- The commit checks of a channel load (R180): the new table, or the first failure with the record's position. `earlier`
holds the entries of the records before, `i` is the position of the next. -/
def channelsCommit : List RawChannel → List ChannelEntry → Nat → Except (Reason × Nat) (List ChannelEntry)
  | [], earlier, _ => .ok earlier
  | x :: xs, earlier, i =>
    match x.entry? with
    | none => .error (.fieldRange, i)
    | some e =>
      if earlier.any fun d => d.pod == e.pod && d.channel == e.channel then .error (.duplicateChannel, i)
      else if earlier.any fun d => d.watchPoint == e.watchPoint then .error (.duplicateWatchPoint, i)
      else channelsCommit xs (earlier ++ [e]) (i + 1)

/-! ### Mould records (R64, R65) -/

/-- The header in a Load Mould body, after the mould code (R56, R64). -/
def rawHeaderAt (b : List Byte) (i : Nat) : RawHeader where
  serial := BitVec.ofNat 32 (wordAt b i)
  autoEligible := byteAt b (i + 4)
  k := byteAt b (i + 5)
  n := byteAt b (i + 6)
  driftShift := byteAt b (i + 7)
  driftLimit := halfAt b (i + 8)
  minVibe := byteAt b (i + 10)
  gapLimit := byteAt b (i + 11)
  w := byteAt b (i + 12)

/-- The profile at an offset (R57, R194). -/
def rawProfileAt (b : List Byte) (i : Nat) : RawProfile where
  watchPoint := byteAt b i
  bandMask := byteAt b (i + 1)
  bands := ⟨(halfAt b (i + 2), halfAt b (i + 4)), (halfAt b (i + 6), halfAt b (i + 8)),
            (halfAt b (i + 10), halfAt b (i + 12)), (halfAt b (i + 14), halfAt b (i + 16))⟩
  hitPresence := byteAt b (i + 18)
  hitLimit := byteAt b (i + 19)
  ringPresence := byteAt b (i + 20)
  ringLo := byteAt b (i + 21)
  ringHi := byteAt b (i + 22)

/-- `n` profiles from an offset. -/
def rawProfilesAt (b : List Byte) (off n : Nat) : List RawProfile :=
  (List.range n).map fun i => rawProfileAt b (off + profileSize * i)

/-- The header, when every field lies in its range (R56, R65 check 2). -/
def RawHeader.header? (x : RawHeader) : Option MouldHeader :=
  if isYesNo x.autoEligible && inRange 1 8 x.k && inRange 1 8 x.n && inRange 0 7 x.driftShift &&
      inRange 0 511 x.driftLimit && inRange 1 255 x.minVibe && inRange 0 255 x.gapLimit && inRange 1 24 x.w then
    some
      { serial := x.serial
        autoEligible := x.autoEligible == 1
        k := x.k
        n := x.n
        driftShift := x.driftShift
        driftLimit := x.driftLimit
        minVibe := x.minVibe
        gapLimit := x.gapLimit
        w := x.w }
  else none

/-- Is a band place in range? A place outside the mask is not checked (R57, R194). -/
def placeOk (mask weight : Nat) (place : Nat × Nat) : Bool :=
  mask / weight % 2 == 0 || (inRange 0 2047 place.1 && inRange 1 511 place.2)

/-- A band place as the profile holds it after a commit: the current baseline equals the loaded one (R58, R66). -/
def placeOf (mask weight : Nat) (place : Nat × Nat) : Option BandProfile :=
  if mask / weight % 2 = 0 then none else some ⟨place.1, place.1, place.2⟩

/-- Are all fields of a profile but its watch point in range (R57, R65 check 2)? A presence byte is a yes/no (log 11). -/
def RawProfile.fieldsOk (x : RawProfile) : Bool :=
  inRange 1 15 x.bandMask &&
  placeOk x.bandMask 1 x.bands.b1 && placeOk x.bandMask 2 x.bands.b2 &&
  placeOk x.bandMask 4 x.bands.b3 && placeOk x.bandMask 8 x.bands.b4 &&
  isYesNo x.hitPresence && (x.hitPresence == 0 || inRange 0 254 x.hitLimit) &&
  isYesNo x.ringPresence && (x.ringPresence == 0 || x.ringLo ≤ x.ringHi)

/-- The profile a commit writes, when every field lies in its range (R57, R66). -/
def RawProfile.profile? (x : RawProfile) : Option Profile :=
  if h : x.watchPoint < 24 then
    if x.fieldsOk then
      some
        { watchPoint := ⟨x.watchPoint, h⟩
          bands := ⟨placeOf x.bandMask 1 x.bands.b1, placeOf x.bandMask 2 x.bands.b2,
                    placeOf x.bandMask 4 x.bands.b3, placeOf x.bandMask 8 x.bands.b4⟩
          hitLimit := if x.hitPresence = 0 then none else some x.hitLimit
          ringWindow := if x.ringPresence = 0 then none else some (x.ringLo, x.ringHi)
          blindStreak := 0 }
    else none
  else none

/-- The position of the first profile whose watch point is not above the one before it (R65 check 1); `i` is the position of
the next profile. -/
def orderFault : Option Nat → List RawProfile → Nat → Option Nat
  | _, [], _ => none
  | none, x :: xs, i => orderFault (some x.watchPoint) xs (i + 1)
  | some before, x :: xs, i =>
    if before < x.watchPoint then orderFault (some x.watchPoint) xs (i + 1) else some i

/-- The profiles a commit writes, or the position of the first out of range (R65 check 2). -/
def profilesCommit : List RawProfile → Nat → Except Nat (List Profile)
  | [], _ => .ok []
  | x :: xs, i =>
    match x.profile? with
    | none => .error i
    | some p =>
      match profilesCommit xs (i + 1) with
      | .error j => .error j
      | .ok ps => .ok (p :: ps)

/-- Checks 1 to 3 of R65 in their order: the mould record a commit writes, or the failure. -/
def mouldCommit (header : RawHeader) (profiles : List RawProfile) : Except (Reason × Nat) MouldRecord :=
  match orderFault none profiles 1 with
  | some i => .error (.watchPointOrder, i)
  | none =>
    match header.header? with
    | none => .error (.fieldRange, 0)
    | some h =>
      match profilesCommit profiles 1 with
      | .error i => .error (.fieldRange, i)
      | .ok ps => if h.n < h.k then .error (.kAboveN, 0) else .ok ⟨h, ps, 0⟩

end Sys2Proof.Machine
end

