-- ==== Sys2Proof/Machine/Wire.lean ====
section
/-! DEFINITION. What leaves: the bytes of the frames the part originates (R133, R192, R194, R195). Where R192 leaves a Reply's
layout open, log 14 names the reading. -/

namespace Sys2Proof.Machine

/-- A one-byte number. -/
def enc8 (x : Nat) : List Byte := [BitVec.ofNat 8 x]

/-- A two-byte number, most significant byte first. -/
def enc16 (x : Nat) : List Byte := [BitVec.ofNat 8 (x / 256), BitVec.ofNat 8 x]

/-- A four-byte number, most significant byte first. -/
def enc32 (x : Nat) : List Byte := enc16 (x / 65536) ++ enc16 x

/-- A yes/no value. -/
def encBool (x : Bool) : List Byte := enc8 (if x then 1 else 0)

/-- An optional field: a presence byte, then the field; the bytes of an absent field, `width` of them, are 0 (R192). -/
def encOpt {α : Type} (width : Nat) (enc : α → List Byte) : Option α → List Byte
  | none => enc8 0 ++ List.replicate width 0
  | some x => enc8 1 ++ enc x

/-- A list of varying length: a count byte, then the items (R192). -/
def encList {α : Type} (enc : α → List Byte) (xs : List α) : List Byte :=
  enc8 xs.length ++ xs.flatMap enc

/-- A set of condition codes: two bytes, the top bit 0 (R192). -/
def encSet (x : CondSet) : List Byte := enc16 x.toNat

/-- R192. -/
def encOperating : OpState → List Byte
  | .halted => enc8 0
  | .watching => enc8 1

/-- R192. -/
def encMouldState : MouldState → List Byte
  | .none => enc8 0
  | .unconfirmed => enc8 1
  | .confirmed _ => enc8 2

/-- A mould slot, a watch point or a code. -/
def encFin {n : Nat} (x : Fin n) : List Byte := enc8 x.val

/-- The mould state and slot (R128, R174). -/
def encMould (m : MouldReport) : List Byte := encMouldState m.state ++ encOpt 1 encFin m.slot

/-- R2: in the order of the table of states. -/
def encRecState : RecState → List Byte
  | .free => enc8 0
  | .opened _ => enc8 1
  | .grace => enc8 2
  | .wait => enc8 3
  | .judging => enc8 4

/-- A record's phase, in the order of R2; it is not the phase tag of R193 (log 14). -/
def encPhase : Phase → List Byte
  | .fill => enc8 0
  | .vibe => enc8 1
  | .ring => enc8 2
  | .strip => enc8 3
  | .settle => enc8 4

/-- The phase of an OPEN record. -/
def RecState.phase? : RecState → Option Phase
  | .opened p => some p
  | _ => none

/-- R174: state, phase when OPEN, number or absent. -/
def encRecReport (r : RecReport) : List Byte :=
  encRecState r.state ++ encOpt 1 encPhase r.state.phase? ++ encOpt 2 (fun n => enc16 n.toNat) r.number

/-- R173: POWER, LINE or RESTART. -/
def encCause : ResetCause → List Byte
  | .power => enc8 0
  | .line => enc8 1
  | .restart => enc8 2

/-- R121: split or coded. -/
def encSigMode : SigMode → List Byte
  | .split => enc8 0
  | .coded => enc8 1

/-- The link rate in Mbit/s (R139, R173). -/
def linkRate (rate : BitVec 2) : Nat := 2 ^ rate.toNat

/-- R173. -/
def encIdentity (x : Identity) : List Byte :=
  enc16 Config.vendorCode ++ enc16 Config.partCode ++ enc8 Config.revision ++ [x.station] ++
  enc8 x.straps.sta.toNat ++ encSigMode x.straps.sigMode ++ enc8 x.straps.rate.toNat ++
  enc8 (linkRate x.straps.rate) ++ encCause x.cause

/-- R194: CHANNELS 0, MOULD 1. -/
def encLoadKind : LoadKind → List Byte
  | .channels => enc8 0
  | .mould => enc8 1

/-- R174: NONE, CHANNELS or MOULD, counted in the order of that list; then the slot, then the remaining count, which is a plain
byte 0 while no load is open (log 14). -/
def encLoadReport : Option LoadReport → List Byte
  | none => enc8 0 ++ encOpt 1 encFin (none : Option (Fin 16)) ++ enc8 0
  | some l =>
    enc8 (match l.kind with | .channels => 1 | .mould => 2) ++ encOpt 1 encFin l.slot ++ enc8 l.remaining

/-- CLAMP is asserted or released, counted in that order (R41, R192; log 14). -/
def encClamp (asserted : Bool) : List Byte := enc8 (if asserted then 0 else 1)

/-- R137: PRESENT or LOST; R142: held or released; R141: GO or HOLD. -/
def encLink (l : LinkReport) : List Byte :=
  enc8 (match l.signal with | .present => 0 | .lost => 1) ++
  enc8 (match l.rxFlow with | .held => 0 | .released => 1) ++
  enc8 (match l.txFlow with | .go => 0 | .hold => 1)

/-- R144: LIVE or SILENT. -/
def encPodState : PodState → List Byte
  | .live => enc8 0
  | .silent => enc8 1

/-- R174, group by group; of the two link groups port U's comes first (log 14). -/
def encStatus (x : StatusReport) : List Byte :=
  encOperating x.operating ++ encLoadReport x.load ++
  encMould x.mould ++ encOpt 1 encFin x.code ++ encOpt 1 encClamp x.clamp ++ x.slots.toList.flatMap encBool ++
  encSet x.conditions.flags ++ encSet x.conditions.enables ++
  encRecReport x.recA ++ encRecReport x.recB ++
  enc8 x.exam ++ enc8 x.forward ++ enc8 x.upward ++ enc8 x.own ++ enc8 x.nonReplies ++ enc8 x.inbox ++
  enc8 x.suspects ++
  encFin x.trace.state ++ encOpt 1 enc8 x.trace.channel ++
  x.pods.toList.flatMap (fun p => encBool p.1 ++ encPodState p.2) ++
  encLink x.linkU ++ encLink x.linkD

/-- R56. -/
def encHeader (h : MouldHeader) : List Byte :=
  enc32 h.serial.toNat ++ encBool h.autoEligible ++ enc8 h.k ++ enc8 h.n ++ enc8 h.driftShift ++
  enc16 h.driftLimit ++ enc8 h.minVibe ++ enc8 h.gapLimit ++ enc8 h.w

/-- One band place of a profile in a Reply: loaded baseline, current baseline, tolerance (R69, R192). -/
def encBandProfile : Option BandProfile → List Byte
  | none => List.replicate 6 0
  | some b => enc16 b.loaded ++ enc16 b.current ++ enc16 b.tolerance

/-- The mask of a profile (R192). -/
def Profile.mask (p : Profile) : Nat :=
  (if p.bands.b1.isSome then 1 else 0) + (if p.bands.b2.isSome then 2 else 0) +
  (if p.bands.b3.isSome then 4 else 0) + (if p.bands.b4.isSome then 8 else 0)

/-- A profile whole (R57, R69). -/
def encProfile (p : Profile) : List Byte :=
  encFin p.watchPoint ++ enc8 p.mask ++
  encBandProfile p.bands.b1 ++ encBandProfile p.bands.b2 ++ encBandProfile p.bands.b3 ++ encBandProfile p.bands.b4 ++
  encOpt 1 enc8 p.hitLimit ++ encOpt 2 (fun w => enc8 w.1 ++ enc8 w.2) p.ringWindow ++ enc8 p.blindStreak

/-- R195: SKIP 0, BLIND 1, DEVIATE 2, CLEAN 3. -/
def verdictCode : Verdict → Nat
  | .skip => 0
  | .blind => 1
  | .deviate => 2
  | .clean => 3

/-- R195: NOT LISTED 0, SUSPECT 1, CONFIRMED 2, LIST FULL 3. -/
def standingCode : Standing → Nat
  | .notListed => 0
  | .suspect => 1
  | .confirmed => 2
  | .listFull => 3

/-- A window's results, coded as the verdicts (R192). -/
def encJudged : Judged → List Byte
  | .deviate => enc8 2
  | .clean => enc8 3

/-- The state of an entry, in the order of R93; it is not the suspect state after judgement of R195 (log 14). -/
def encSuspectState : SuspectState → List Byte
  | .suspect => enc8 0
  | .confirmed => enc8 1

/-- A suspect entry with every field R93 lists. -/
def encEntry (e : SuspectEntry) : List Byte :=
  encFin e.slot ++ encFin e.watchPoint ++ encSuspectState e.state ++ enc16 e.firstCycle.toNat ++
  encList encJudged e.window ++ enc8 e.lastDev.toNat ++ encOpt 2 (fun c => enc16 c.toNat) e.confirmedCycle

/-- A profile's part of the summary (R88, R89). -/
def encSummaryEntry (e : SummaryEntry) : List Byte :=
  encFin e.watchPoint ++ enc8 (verdictCode e.verdict) ++
  enc16 e.levels.b1 ++ enc16 e.levels.b2 ++ enc16 e.levels.b3 ++ enc16 e.levels.b4 ++
  enc8 e.hits ++ encOpt 1 enc8 e.ringDown ++ enc8 e.deviations.toNat ++ encBool e.ringCut ++ enc8 e.blind.toNat ++
  enc32 e.counted ++ enc32 e.missing ++ enc8 (standingCode e.standing)

/-- R193: the phase tags. -/
def encExamPhase : ExamPhase → List Byte
  | .vibe => enc8 2
  | .ring => enc8 3
  | .strip => enc8 4

/-- A held block of the trace ring (R185, R189). -/
def encBlock (c : Copy) : List Byte :=
  enc8 (c.pod.val + 1) ++ encFin c.channel ++ [c.cycleTag] ++ encExamPhase c.phase ++ [c.sequence] ++
  c.samples.flatMap fun x => enc16 x.toNat

/-- The data of an OK (R166, R194). Of the two record states of a Control, which R169
does not order, record A's comes first, and an entry of Read Suspects has its index before its fields (log 14). -/
def encOk : OkBody → List Byte
  | .empty => []
  | .identity x => encIdentity x
  | .status x => encStatus x
  | .control op a b => encOperating op ++ encRecState a ++ encRecState b
  | .restarted op cause => encOperating op ++ encCause cause
  | .mould h judged page next => encHeader h ++ enc32 judged ++ encList encProfile page ++ encOpt 1 encFin next
  | .confirmed slot serial => encFin slot ++ enc32 serial.toNat
  | .suspects total page => enc8 total ++ encList (fun p => enc8 p.1 ++ encEntry p.2) page
  | .released e left wrote => encEntry e ++ enc8 left ++ encBool wrote
  | .cycle c slot serial count page next =>
    enc16 c.toNat ++ encFin slot ++ enc32 serial.toNat ++ enc8 count ++ encList encSummaryEntry page ++
    encOpt 1 encFin next
  | .cleared kept set => encSet kept ++ encSet set
  | .enables enables flags => encSet enables ++ encSet flags
  | .traced held channel index block => enc8 held ++ enc8 channel ++ enc8 index ++ encBlock block

/-- R194: the codes 1-14. -/
def reasonCode : Reason → Nat
  | .noSetup => 1 | .noChannels => 2 | .podAbsent => 3 | .bandSetAbsent => 4 | .fieldRange => 5
  | .duplicateSlot => 6 | .duplicateChannel => 7 | .duplicateWatchPoint => 8 | .watchPointOrder => 9
  | .kAboveN => 10 | .noClamp => 11 | .codeMismatch => 12 | .emptySlot => 13 | .serialMismatch => 14

/-- The status and the body of a Reply (R166, R194). -/
def encAnswer : Answer → List Byte
  | .ok body => enc8 0 ++ encOk body
  | .more n => enc8 1 ++ enc8 n
  | .done n => enc8 2 ++ enc8 n
  | .badState op => enc8 3 ++ encOperating op
  | .badArgument => enc8 4
  | .inUse slot => enc8 5 ++ encFin slot
  | .loadOpen kind n => enc8 6 ++ encLoadKind kind ++ enc8 n
  | .noLoad => enc8 7
  | .notFound => enc8 8
  | .refused reason item => enc8 9 ++ enc8 (reasonCode reason) ++ enc8 item

/-- The payload of a Reply (R194). -/
def encReply (r : Reply) : List Byte := [r.name, r.tag] ++ encAnswer r.answer

/-- A result in a Finding (R195). -/
def encFindingResult (r : FindingResult) : List Byte :=
  encFin r.watchPoint ++ enc8 (verdictCode r.verdict + 4 * standingCode r.standing) ++
  enc8 (r.deviations.toNat + if r.ringCut then 64 else 0)

/-- The payload of a Finding (R195). -/
def encFinding (f : Finding) : List Byte :=
  enc16 f.cycle.toNat ++ encFin f.slot ++ enc32 f.serial.toNat ++ encList encFindingResult f.results

/-- The payload of a Notice (R195). -/
def encNotice (n : Notice) : List Byte :=
  encSet n.conditions.flags ++ encSet n.conditions.enables ++ encOperating n.operating ++ encMould n.mould

/-- A whole frame: header, payload and CRC (R133, R134). -/
def wrapFrame (kind dest source : Byte) (payload : List Byte) : List Byte :=
  let head := [kind, dest, source, BitVec.ofNat 8 payload.length] ++ payload
  head ++ enc16 (crc head).toNat

/-- The bytes of an own frame, sent by the station `source` (R164, R192, R195). -/
def OwnFrame.bytes (source : Byte) : OwnFrame → List Byte
  | .reply r => wrapFrame 6 r.dest source (encReply r)
  | .finding f => wrapFrame 7 addrController source (encFinding f)
  | .notice n => wrapFrame 8 addrController source (encNotice n)

/-- The symbols of a frame without the HOLD and GO that may stand among them (R133). -/
def frameSymbols (bytes : List Byte) : List Symbol :=
  .start :: bytes.map .data ++ [.frameEnd]

/-- The symbol of a sent flow state (R141). -/
def TxFlow.symbol : TxFlow → Symbol
  | .go => .go
  | .hold => .hold

/-- What a transmitter sends between frames: IDLE, or HOLD while its sent flow state is HOLD (R133, R141). -/
def LinkPort.restSymbol (p : LinkPort) : Symbol :=
  match p.txFlow with
  | .go => .idle
  | .hold => .hold

/-- The symbols of a frame that are still to be sent, its END last (R133). -/
def Outgoing.left (x : Outgoing) : List Symbol := (frameSymbols x.bytes).drop x.place

/-- A symbol boundary of the transmitter (R133, R141). A change of the sent flow state has its symbol sent, be it in the middle of
a frame; else the frame in progress has its next symbol sent, START first; else, between frames, IDLE or HOLD is sent. END is not
sent here: the boundary at which it is sent is the event of a frame's end (log 17). -/
def LinkPort.boundary (p : LinkPort) : LinkPort :=
  if p.flowDue then { p with flowDue := false, sent := [p.txFlow.symbol] }
  else
    match p.tx with
    | none => { p with sent := [p.restSymbol] }
    | some x =>
      match x.left with
      | y :: _ :: _ => { p with tx := some ⟨x.bytes, x.place + 1⟩, sent := [y] }
      | [_] => p
      | [] => p

/-- The transmitter sends its frame to its END, and is idle: a flow symbol that is due, then all that is left of the frame (R133,
R141; log 17). -/
def LinkPort.finish (p : LinkPort) : LinkPort :=
  match p.tx with
  | none => p
  | some x =>
    { p with tx := none, flowDue := false, sent := (if p.flowDue then [p.txFlow.symbol] else []) ++ x.left }

/-- The sent flow state takes a value; the symbol of a change is due (R141). -/
def LinkPort.setFlow (p : LinkPort) (x : TxFlow) : LinkPort :=
  { p with txFlow := x, flowDue := p.flowDue || x != p.txFlow }

end Sys2Proof.Machine
end

