-- ==== Sys2Proof/Machine/Ops.lean ====
section
/-! DEFINITION. The operations that the commands share: raising a condition, the ports and their flow states, the queues and
the arbiter, the pods, the records, the mould. -/

namespace Sys2Proof.Machine

namespace State

/-! ### Conditions -/

/-- Raise a condition: its flag is set, or stays set (R114). The lines and attention follow at the end of the step. -/
def raise (c : Condition) (s : State) : State :=
  s.setCond { s.cond with flags := s.cond.flags ||| c.bit }

/-- Raise a condition if there is cause. -/
def raiseIf (cause : Bool) (c : Condition) (s : State) : State :=
  if cause then s.raise c else s

/-! ### Straps, ports and setup -/

/-- The part's station address (R139). -/
def station (s : State) : Byte := s.straps.station

/-- A link port. -/
def port (s : State) : Port → LinkPort
  | .u => s.portU
  | .d => s.portD

/-- Replace a link port. -/
def setPort (s : State) (p : Port) (x : LinkPort) : State :=
  match p with
  | .u => s.setPortU x
  | .d => s.setPortD x

/-- The pod table's entry for a pod; none while the setup record is absent (R144). -/
def podSetup (s : State) (p : PodId) : Option PodSetup :=
  s.tables.setup.map fun su => su.pods[p]

/-- Is a pod present (R144)? -/
def podPresent (s : State) (p : PodId) : Bool :=
  match s.podSetup p with
  | some x => x.present
  | none => false

/-- A silence timer started afresh with the pod's silence limit (R145). -/
def freshTimer (s : State) (p : PodId) : SilenceTimer :=
  match s.podSetup p with
  | some x => .running x.limit
  | none => .stopped

/-- Is the part WATCHING (R168)? -/
def watching (s : State) : Bool := s.engine.operating == .watching

/-! ### Pods and their silence timers -/

/-- Change what the monitor holds for every pod. -/
def mapPods (s : State) (f : PodId → Pod → Pod) : State :=
  s.setPods (Vector.ofFn fun i => f i s.pods[i])

/-- Port U's sent flow state becomes HOLD: the timers of all LIVE present pods are suspended (R148). -/
def suspendPods (s : State) : State :=
  s.mapPods fun p x => if s.podPresent p && x.state == .live then { x with timer := .suspended } else x

/-- Port U's sent flow state becomes GO in WATCHING: the timer of every LIVE present pod starts afresh (R148). -/
def resumePods (s : State) : State :=
  s.mapPods fun p x => if s.podPresent p && x.state == .live then { x with timer := s.freshTimer p } else x

/-- Entry to HALTED: every pod LIVE, every timer stopped (R146). -/
def restPods (s : State) : State :=
  s.mapPods fun _ _ => Pod.reset

/-- Entry to WATCHING: every present pod LIVE with its timer started afresh, or suspended while port U sends HOLD
(R146, R148). -/
def wakePods (s : State) : State :=
  s.mapPods fun p x =>
    if s.podPresent p then
      ⟨.live, match s.portU.txFlow with | .go => s.freshTimer p | .hold => .suspended⟩
    else x

/-- The present pods that are SILENT, as a set (R147). -/
def silentPods (s : State) : BitVec 8 :=
  (List.finRange 8).foldl
    (fun acc p => if s.podPresent p && s.pods[p].state == .silent then acc ||| BitVec.twoPow 8 p.val else acc) 0

end State

/-! ### Sent flow states -/

/-- A sent flow state after its queue's occupancy has changed: HOLD from `high` upward, GO from `low` downward, and as it was
between the two (R141). -/
def nextTxFlow (high low : Nat) (now : TxFlow) (occupancy : Nat) : TxFlow :=
  if high ≤ occupancy then .hold else if occupancy ≤ low then .go else now

namespace State

/-- Port U's sent flow state takes a value; in WATCHING the silence timers follow a change of it (R148). -/
def setFlowU (s : State) (x : TxFlow) : State :=
  let t := s.setPortU (s.portU.setFlow x)
  match s.watching, s.portU.txFlow, x with
  | true, .go, .hold => t.suspendPods
  | true, .hold, .go => t.resumePods
  | _, _, _ => t

/-- Port D's sent flow state takes a value. -/
def setFlowD (s : State) (x : TxFlow) : State :=
  s.setPortD (s.portD.setFlow x)

/-- The forward queue takes a content, and port U's sent flow state follows (R141, R154). -/
def setForward (s : State) (q : List (List Byte)) : State :=
  (s.setPaths { s.paths with forward := q }).setFlowU (nextTxFlow 6 2 s.portU.txFlow q.length)

/-- The upward queue takes a content, and port D's sent flow state follows (R141, R155). -/
def setUpward (s : State) (q : List (List Byte)) : State :=
  (s.setPaths { s.paths with upward := q }).setFlowD (nextTxFlow 3 1 s.portD.txFlow q.length)

/-- A symbol boundary of both transmitters (R141; log 17). -/
def symbolBoundary (s : State) : State :=
  (s.setPortU s.portU.boundary).setPortD s.portD.boundary

/-- The own queue takes a content. -/
def setOwn (s : State) (q : List OwnFrame) : State :=
  s.setPaths { s.paths with own := q }

/-- The pass-over count takes a value. -/
def setPassOver (s : State) (n : Nat) : State :=
  s.setPaths { s.paths with passOver := n }

/-! ### Transmitters and the arbiter -/

/-- A transmitter may start a frame: it is not sending one, and its received flow state is released (R142). -/
def mayStart (s : State) (p : Port) : Bool :=
  (s.port p).tx.isNone && (s.port p).rxFlow == .released

/-- Port D's transmitter starts a frame. -/
def sendD (s : State) (bytes : List Byte) : State :=
  s.setPortD { s.portD with tx := some (.start bytes) }

/-- Port U's transmitter starts a frame. -/
def sendU (s : State) (bytes : List Byte) : State :=
  s.setPortU { s.portU with tx := some (.start bytes) }

/-- Grant the forward head: it leaves its queue, and the pass-over count takes the value given (R158). -/
def grantForward (s : State) (head : List Byte) (rest : List (List Byte)) (count : Nat) : State :=
  ((s.setForward rest).setPassOver count).sendD head

/-- Grant the own head: it leaves its queue, and the new head's count starts from 0 (R158). -/
def grantOwn (s : State) (head : OwnFrame) (rest : List OwnFrame) : State :=
  ((s.setOwn rest).setPassOver 0).sendD (head.bytes s.station)

/-- The decision point of port D, if this is one (R158). -/
def decideD (s : State) : State :=
  if s.mayStart .d then
    match s.paths.forward, s.paths.own with
    | [], [] => s
    | f :: fs, [] => s.grantForward f fs 0
    | [], o :: os => s.grantOwn o os
    | f :: fs, o :: os =>
      if s.paths.passOver < Config.passOverLimit then s.grantForward f fs (s.paths.passOver + 1)
      else s.grantOwn o os
  else s

/-- Port U's transmitter starts the head of the upward queue if it may (R155). -/
def startU (s : State) : State :=
  if s.mayStart .u then
    match s.paths.upward with
    | [] => s
    | f :: fs => (s.setUpward fs).sendU f
  else s

/-- The transmitter of a port goes on: a decision point on port D, the upward head on port U (R142). -/
def resumeTx (s : State) : Port → State
  | .u => s.startU
  | .d => s.decideD

/-- Offer a frame to the forward queue (R154); a frame that joins an idle, released transmitter's queue is granted at once
(R159). -/
def offerForward (s : State) (bytes : List Byte) : State :=
  if s.paths.forward.length < Config.forwardCapacity then (s.setForward (s.paths.forward ++ [bytes])).decideD
  else s.raise .forwardLoss

/-- Offer a frame to the upward queue (R155). -/
def offerUpward (s : State) (bytes : List Byte) : State :=
  if s.paths.upward.length < Config.upwardCapacity then (s.setUpward (s.paths.upward ++ [bytes])).startU
  else s.raise .forwardLoss

/-- The number of own frames that are not Replies (R157). -/
def nonReplies (s : State) : Nat :=
  s.paths.own.countP fun f => !f.isReply

/-- The room test for a Reply (R157, R164). -/
def roomForReply (s : State) : Bool :=
  s.paths.own.length < Config.ownCapacity

/-- The room test for a Finding or a Notice (R157). -/
def roomForNonReply (s : State) : Bool :=
  s.paths.own.length < Config.ownCapacity && s.nonReplies < Config.nonReplyCapacity

/-- Place an own frame (R157); it may be granted at once (R158). -/
def placeOwn (s : State) (f : OwnFrame) : State :=
  (s.setOwn (s.paths.own ++ [f])).decideD

/-- Place a Finding or a Notice, or raise QUEUE OVERRUN for want of room (R87, R126). -/
def offerNonReply (s : State) (f : OwnFrame) : State :=
  if s.roomForNonReply then s.placeOwn f else s.raise .queueOverrun

/-! ### Records -/

/-- Replace one cycle record. -/
def setRec (s : State) (i : RecId) (r : CycleRecord) : State :=
  s.setTracker (s.tracker.put i r)

/-- A record goes FREE and retains its number (R3, R14, R15). -/
def freeRec (s : State) (i : RecId) : State :=
  s.setRec i (CycleRecord.freed (s.tracker.get i).number)

end State

/-- Is the record OPEN? -/
def CycleRecord.isOpen (r : CycleRecord) : Bool :=
  match r.state with
  | .opened _ => true
  | _ => false

/-- Is the record in GRACE, WAIT or JUDGING (R63)? -/
def CycleRecord.isClosed (r : CycleRecord) : Bool :=
  match r.state with
  | .grace => true
  | .wait => true
  | .judging => true
  | .free => false
  | .opened _ => false

/-- The OPEN record, if there is one (R2). -/
def Tracker.openRec (t : Tracker) : Option RecId :=
  if t.a.isOpen then some .a else if t.b.isOpen then some .b else none

/-- The record an OPEN Mark uses: A if it is FREE, else B if it is (R6). -/
def Tracker.freeRec (t : Tracker) : Option RecId :=
  if t.a.state = .free then some .a else if t.b.state = .free then some .b else none

namespace State

/-- An abandonment (R15) of the record. -/
def abandon (s : State) (i : RecId) : State := s.freeRec i

/-! ### The mould -/

/-- The installed slot (R44). -/
def installed (s : State) : Option (Fin 16) :=
  match s.monitor.state with
  | .confirmed snap => some snap.code
  | .none => none
  | .unconfirmed => none

/-- The mould state and slot as Read Status and Notices report them (R53). -/
def mouldReport (s : State) : MouldReport where
  state := s.monitor.state
  slot :=
    match s.monitor.state with
    | .none => none
    | .unconfirmed => s.monitor.code.debounced
    | .confirmed snap => some snap.code

/-- The content of a mould slot, none when it is EMPTY (R55). -/
def mould (s : State) (slot : Fin 16) : Option MouldRecord := s.moulds[slot]

/-- Write a mould slot. -/
def setMould (s : State) (slot : Fin 16) (m : MouldRecord) : State :=
  s.setMoulds (s.moulds.set slot.val (some m) slot.isLt)

/-- The mould state takes a value. -/
def setMouldState (s : State) (x : MouldState) : State :=
  s.setMonitor { s.monitor with state := x }

/-- Does a record in GRACE, WAIT or JUDGING carry the slot (R63, R70)? -/
def carried (s : State) (slot : Fin 16) : Bool :=
  (s.tracker.a.isClosed && s.tracker.a.slot == some slot) ||
  (s.tracker.b.isClosed && s.tracker.b.slot == some slot)

/-- Is a mould slot in use (R63)? -/
def inUse (s : State) (slot : Fin 16) : Bool :=
  (s.watching && s.installed == some slot) || s.carried slot

/-! ### Judgement and trace -/

/-- The mould record that stands in for a judged slot that is EMPTY, which no run reaches (log 18). -/
def noMould : MouldRecord := ⟨⟨0, false, 0, 0, 0, 0, 0, 0, 0⟩, [], 0⟩

/-- A record enters JUDGING and the verdict unit begins on it (R72), with the profiles as they stand (R73). -/
def startJudgement (s : State) (i : RecId) : State :=
  let r := s.tracker.get i
  let m := match r.slot with
    | some slot => (s.mould slot).getD noMould
    | none => noMould
  (s.setRec i { r with state := .judging, graceTimer := none }).setVerdict
    { s.verdict with judging := some ⟨i, m⟩ }

/-- The trace buffer goes OFF (R20, R187). -/
def traceStops (s : State) : State := s.setTrace .off

end State

end Sys2Proof.Machine
end

