-- ==== Sys2Proof/Machine/Flags.lean ====
section
/-! DEFINITION. The condition unit (chapter 7): standing causes, attention, Notices, STOP and the signal lines; and the end
of every step, in which they are evaluated once. -/

namespace Sys2Proof.Machine

namespace State

/-! ### Standing causes (R115) -/

/-- The standing cause of CRACK. -/
def crackCause (s : State) : Bool :=
  match s.monitor.state with
  | .confirmed snap => s.suspects.any fun e => e.state == .confirmed && e.slot == snap.code
  | .none => false
  | .unconfirmed => false

/-- The standing cause of POD SILENT. -/
def podSilentCause (s : State) : Bool :=
  (List.finRange 8).any fun p => s.podPresent p && s.pods[p].state == .silent

/-- The standing cause of MOULD CHANGED. -/
def mouldChangedCause (s : State) : Bool := s.monitor.state == .unconfirmed

/-- The standing cause of MOULD UNKNOWN. -/
def mouldUnknownCause (s : State) : Bool :=
  match s.monitor.clamp.debounced, s.monitor.code.debounced with
  | some true, some code => (s.mould code).isNone
  | _, _ => false

/-- The standing cause of DOWNSTREAM STALL. -/
def stallCause (s : State) : Bool := s.stall.stalled

/-- The standing cause of LINK FAULT. -/
def linkFaultCause (s : State) : Bool := s.portU.signal == .lost || s.portD.signal == .lost

/-- Does the standing cause of a condition hold? Nine conditions have none (R115). -/
def causeHolds (s : State) : Condition → Bool
  | .crack => s.crackCause
  | .podSilent => s.podSilentCause
  | .mouldChanged => s.mouldChangedCause
  | .mouldUnknown => s.mouldUnknownCause
  | .downstreamStall => s.stallCause
  | .linkFault => s.linkFaultCause
  | .suspect => false
  | .watchLost => false
  | .markOrder => false
  | .cycleTimeout => false
  | .driftLimit => false
  | .listFull => false
  | .forwardLoss => false
  | .queueOverrun => false
  | .loadTimeout => false

end State

/-- The set of the conditions that a test admits. -/
def condSet (f : Condition → Bool) : CondSet :=
  BitVec.ofBoolListLE (Condition.all.map f)

namespace State

/-- The conditions whose standing cause holds. -/
def standing (s : State) : CondSet := condSet s.causeHolds

/-! ### Attention and the lines -/

/-- Attention: some flag is both set and enabled (R125). -/
def attention (s : State) : Bool := s.cond.flags &&& s.cond.enables != 0

/-- The class of a condition: NONE while the setup record is absent (R119). -/
def classOf (s : State) (c : Condition) : CondClass :=
  match s.tables.setup with
  | some su => su.classes[c.index]
  | none => .none

/-- Is some set flag of the class? -/
def anyOfClass (s : State) (x : CondClass) : Bool :=
  Condition.all.any fun c => c.isIn s.cond.flags && s.classOf c == x

/-- The code of the first set flag of a class, in code order. -/
def firstOfClass (s : State) (x : CondClass) : Option Nat :=
  (Condition.all.find? fun c => c.isIn s.cond.flags && s.classOf c == x).map fun c => c.index.val + 1

/-- The number the coded lines carry: the highest-ranked set flag whose class is not NONE, or 0 (R122). -/
def codedNumber (s : State) : Nat :=
  match s.firstOfClass .stop with
  | some n => n
  | none =>
    match s.firstOfClass .warn with
    | some n => n
    | none => (s.firstOfClass .advise).getD 0

/-- Is the mould state CONFIRMED? -/
def mouldConfirmed (s : State) : Bool :=
  match s.monitor.state with
  | .confirmed _ => true
  | .none => false
  | .unconfirmed => false

/-- The signal lines in split mode, S0 as bit 0 (R121). -/
def splitSignals (s : State) : BitVec 4 :=
  BitVec.ofBoolListLE
    [s.anyOfClass .warn || s.anyOfClass .stop, s.anyOfClass .advise, Condition.crack.isIn s.cond.flags, s.mouldConfirmed]

/-- STOP and the signal lines, evaluated on the state (R120, R121, R122). -/
def evalLines (s : State) : Lines where
  stop := s.anyOfClass .stop
  signals :=
    match s.straps.sigMode with
    | .split => s.splitSignals
    | .coded => BitVec.ofNat 4 s.codedNumber

/-! ### The end of a step -/

/-- A Notice of the state as it stands (R128). -/
def noticeNow (s : State) : Notice := ⟨s.cond, s.engine.operating, s.mouldReport⟩

/-- Standing causes that arose since `before` set their flags (R115, R116). -/
def causesArise (before s : State) : State :=
  s.setCond { s.cond with flags := s.cond.flags ||| (s.standing &&& ~~~ before.standing) }

/-- A Notice is offered when attention went from clear to set since `before` (R126). -/
def offerNotice (before s : State) : State :=
  if !before.attention && s.attention then s.offerNonReply (.notice s.noticeNow) else s

/-- The lines take the values of the state (R120, R123). -/
def driveLines (s : State) : State := s.setLines s.evalLines

/-- The end of a step that began in `before`: standing causes that arose set their flags, attention is evaluated, a Notice
is offered at its transition, and the lines are driven, once (R114, R116, R123, R125, R126). -/
def settle (before s : State) : State :=
  (offerNotice before (causesArise before s)).driveLines

end State

/-- A step with the effect `f`, whole: its effect and the end of the step. -/
def stepped (f : State → State) (s : State) : Host.Outcome State Fault Refusal :=
  .next (State.settle s (f s))

/-- A command whose event cannot occur in the present state has no effect (log 2). -/
def noEvent (s : State) : Host.Outcome State Fault Refusal := .next s

end Sys2Proof.Machine
end

