-- ==== Sys2Proof/Machine/Engine.lean ====
section
/-! DEFINITION. The management engine's execution of the request at the head of the inbox (R163 to R167). -/

namespace Sys2Proof.Machine

/-- What check 2 and check 3 of R165 let pass for a request (R167). -/
inductive Permission where
  /-- in every state, while a load is open included -/
  | always
  /-- in both operating states, with no load open -/
  | noLoad
  /-- in HALTED only, with no load open -/
  | haltedOnly
  /-- in both operating states, with a load open -/
  | withLoad
  deriving DecidableEq, Repr

/-- Checks 2 and 3 of R165: the answer of the first that fails. -/
def gate (perm : Permission) (s : State) : Option Answer :=
  match perm, s.engine.load with
  | .always, _ => none
  | .withLoad, none => some .noLoad
  | .withLoad, some _ => none
  | .noLoad, some l => some (.loadOpen l.kind l.remaining)
  | .noLoad, none => none
  | .haltedOnly, some l => some (.loadOpen l.kind l.remaining)
  | .haltedOnly, none => if s.watching then some (.badState s.engine.operating) else none

/-- A request's own part: the state it leaves, and its answer. -/
abbrev Act := Request → State → State × Answer

/-- A request's answer and effect: checks 2 and 3, then its own part (R165). -/
def answered (perm : Permission) (act : Act) (r : Request) (s : State) : State × Answer :=
  match gate perm s with
  | some a => (s, a)
  | none => act r s

namespace State

/-- The inbox takes a content. -/
def setInbox (s : State) (q : List Request) : State := s.setEngine { s.engine with inbox := q }

/-- The open load takes a content. -/
def setLoad (s : State) (x : Option OpenLoad) : State := s.setEngine { s.engine with load := x }

/-- The Reply to a request is placed (R164). -/
def reply (s : State) (r : Request) (a : Answer) : State :=
  s.placeOwn (.reply ⟨r.source, r.name, r.tag, a⟩)

/-- A request leaves the inbox, is checked, takes effect, and is answered, in one step (R164). -/
def execute (s : State) (perm : Permission) (act : Act) (r : Request) (rest : List Request) : State :=
  let x := answered perm act r (s.setInbox rest)
  x.1.reply r x.2

/-- Is the request one that the row executes now: of that row, with room for its Reply (R164, R165)? -/
def executes (s : State) (row : Instr) (r : Request) : Bool :=
  requestRow s.engine.load r == row && s.roomForReply

end State

/-- The step of a request's row: the head of the inbox is executed if it is of that row and the own queue has room for the
Reply; otherwise the head waits, or is another row's, and the event does not occur (R164; log 2, log 7). -/
def serve (row : Instr) (perm : Permission) (act : Act) (s : State) : Host.Outcome State Fault Refusal :=
  match s.engine.inbox with
  | r :: rest => if s.executes row r then stepped (fun t => t.execute perm act r rest) s else noEvent s
  | [] => noEvent s

end Sys2Proof.Machine
end

