-- ==== Sys2Proof/Machine/Control.lean ====
section
/-! DEFINITION. Identify, Read Status, the Control actions, the resets, and requests that are none (chapter 10). -/

namespace Sys2Proof.Machine

/-! ### Reports -/

/-- What Read Status reports of a record (R174). -/
def CycleRecord.report (r : CycleRecord) : RecReport := ⟨r.state, r.number⟩

/-- What Read Status reports of a port (R174). -/
def LinkPort.report (p : LinkPort) : LinkReport := ⟨p.signal, p.rxFlow, p.txFlow⟩

/-- What Read Status reports of the open load (R174). -/
def OpenLoad.report (l : OpenLoad) : LoadReport where
  kind := l.kind
  slot :=
    match l.staging with
    | .channels _ => none
    | .mould slot _ _ => some slot
  remaining := l.remaining

/-- What Read Status reports of the trace buffer (R174): OFF, RUNNING, FROZEN are 0, 1, 2. -/
def Trace.report : Trace → TraceReport
  | .off => ⟨0, none⟩
  | .running ch _ => ⟨1, some ch⟩
  | .frozen ch _ => ⟨2, some ch⟩

namespace State

/-- What Read Status reports (R174). -/
def statusReport (s : State) : StatusReport where
  operating := s.engine.operating
  load := s.engine.load.map OpenLoad.report
  mould := s.mouldReport
  code := s.monitor.code.debounced
  clamp := s.monitor.clamp.debounced
  slots := s.moulds.map Option.isSome
  conditions := s.cond
  recA := s.tracker.a.report
  recB := s.tracker.b.report
  exam := s.exam.length
  forward := s.paths.forward.length
  upward := s.paths.upward.length
  own := s.paths.own.length
  nonReplies := s.nonReplies
  inbox := s.engine.inbox.length
  suspects := s.suspects.length
  trace := s.trace.report
  pods := Vector.ofFn fun p => (s.podPresent p, s.pods[p].state)
  linkU := s.portU.report
  linkD := s.portD.report

/-- What Identify reports (R173). -/
def identity (s : State) : Identity := ⟨s.station, s.straps, s.engine.cause⟩

/-- The OK of a Control (R169). -/
def controlOk (s : State) : Answer :=
  .ok (.control s.engine.operating s.tracker.a.state s.tracker.b.state)

/-- The operating state takes a value. -/
def setOperating (s : State) (x : OpState) : State := s.setEngine { s.engine with operating := x }

/-! ### START (R170) -/

/-- The first check of START that fails, with its item index (R170). -/
def startFault (s : State) : Option (Reason × Nat) :=
  if s.tables.setup.isNone then some (.noSetup, 0)
  else if s.tables.channels = [] then some (.noChannels, 0)
  else
    match s.tables.channels.findIdx? fun e => !s.podPresent e.pod with
    | some i => some (.podAbsent, i)
    | none =>
      match s.tables.channels.findIdx? fun e => (s.tables.bandSets[e.bandSet]).isNone with
      | some i => some (.bandSetAbsent, i)
      | none => none

/-- Entry to WATCHING (R18, R146, R168). -/
def enterWatching (s : State) : State :=
  ((s.setOperating .watching).setTracker { s.tracker with unsync := true }).wakePods

/-! ### HALT (R171) -/

/-- A record that is OPEN, in GRACE or in WAIT is abandoned with reason HALT (R18). -/
def haltRec (s : State) (i : RecId) : State :=
  match (s.tracker.get i).state with
  | .opened _ => s.abandon i
  | .grace => s.abandon i
  | .wait => s.abandon i
  | .judging => s
  | .free => s

/-- Entry to HALTED by HALT (R18, R27, R146, R168). -/
def enterHalted (s : State) : State :=
  ((((s.setOperating .halted).haltRec .a).haltRec .b).setExam []).restPods

/-! ### RESTART (R172) -/

/-- The mould state after a Restart (R54). -/
def mouldAfterRestart (s : State) : MouldState :=
  if s.monitor.code.debounced.isSome ∧ s.monitor.clamp.debounced = some true then .unconfirmed else .none

/-- The queues of the forward path and the own queue are emptied, the pass-over count is 0, and the sent flow states follow
(R161). -/
def emptyQueues (s : State) : State :=
  (((s.setForward []).setUpward []).setOwn []).setPassOver 0

/-- The blocks take their Restart states (R19, R27, R54, R88, R130, R146, R161, R172, R185). -/
def restartBlocks (s : State) : State :=
  (((((((((s.setEngine ⟨.halted, [], none, .restart⟩).setTracker Tracker.reset).setExam []).emptyQueues).setVerdict
    ⟨none, none⟩).setCond ⟨0, 0⟩).setMouldState s.mouldAfterRestart).restPods).setTrace .off)

/-- The Restart: every block takes its Restart state, then each standing cause that holds sets its flag (R130). -/
def restarted (s : State) : State :=
  let t := s.restartBlocks
  t.setCond ⟨t.standing, 0⟩

/-- A power-on or line reset (R184): everything but the waiting commands. -/
def resetBy (s : State) (cause : ResetCause) (pins : Pins) : State :=
  State.afterReset cause pins s.pending

end State

/-! ### The requests' own parts -/

/-- R173. -/
def actIdentify : Act := fun _ s => (s, .ok (.identity s.identity))

/-- R174. -/
def actReadStatus : Act := fun _ s => (s, .ok (.status s.statusReport))

/-- R170: with a load open START is answered LOAD OPEN; in WATCHING it changes nothing. -/
def actStart : Act := fun _ s =>
  match s.engine.load with
  | some l => (s, .loadOpen l.kind l.remaining)
  | none =>
    if s.watching then (s, s.controlOk)
    else
      match s.startFault with
      | some (reason, item) => (s, .refused reason item)
      | none => (s.enterWatching, s.enterWatching.controlOk)

/-- R171: in HALTED it changes nothing. -/
def actHalt : Act := fun _ s =>
  if s.watching then (s.enterHalted, s.enterHalted.controlOk) else (s, s.controlOk)

/-- R172. -/
def actRestart : Act := fun _ s => (s.restarted, .ok (.restarted .halted .restart))

/-- R165: an unknown name, a body of the wrong length, or a Control whose byte names no action or another bit (R169). -/
def actUnknown : Act := fun _ s => (s, .badArgument)

/-! ### The commands -/

/-- POWER_ON_RESET (R184). -/
def execPowerOnReset (pins : Pins) (s : State) : Host.Outcome State Fault Refusal :=
  stepped (fun t => t.resetBy .power pins) s

/-- LINE_RESET (R184). -/
def execLineReset (pins : Pins) (s : State) : Host.Outcome State Fault Refusal :=
  stepped (fun t => t.resetBy .line pins) s

/-- IDENTIFY (R173). -/
def execIdentify (s : State) : Host.Outcome State Fault Refusal := serve .identify .always actIdentify s

/-- READ_STATUS (R174). -/
def execReadStatus (s : State) : Host.Outcome State Fault Refusal := serve .readStatus .always actReadStatus s

/-- RESTART (R172). -/
def execRestart (s : State) : Host.Outcome State Fault Refusal := serve .restart .always actRestart s

/-- HALT (R171). -/
def execHalt (s : State) : Host.Outcome State Fault Refusal := serve .halt .always actHalt s

/-- START (R170). -/
def execStart (s : State) : Host.Outcome State Fault Refusal := serve .start .always actStart s

/-- UNKNOWN_REQUEST (R165). -/
def execUnknownRequest (s : State) : Host.Outcome State Fault Refusal := serve .unknownRequest .always actUnknown s

end Sys2Proof.Machine
end

