-- ==== Sys2Proof/Machine/Level.lean ====
section
/-! DEFINITION. Levels (R33, R34) and band filters (R23, R32).

A level is 160 log10 of a mean square, rounded half up and clamped into 0-2047. For a rational mean square m/d it is found
exactly, in whole numbers: the level is at least k, for k above 0, just when 160 log10(m/d) >= k - 1/2, that is, when
(m/d)^320 >= 10^(2k-1).

A band filter's outputs are real numbers (its coefficients hold tangents and the square root of 2), so its mean square is
enclosed between two rationals, by interval arithmetic on whole multiples of 2^-p. While the two bounds round to different
levels the precision p is doubled; once it is beyond what the numbers at hand can come to a rounding boundary without
standing on it, the mean square stands on the boundary, and a half is rounded upward (log 12, log 13). -/

namespace Sys2Proof.Machine

/-! ### Four -/

/-- The four values in band order. -/
def Four.toList {α : Type} (x : Four α) : List α := [x.b1, x.b2, x.b3, x.b4]

/-- Apply a function to each of the four. -/
def Four.map {α β : Type} (f : α → β) (x : Four α) : Four β := ⟨f x.b1, f x.b2, f x.b3, f x.b4⟩

/-- Apply a function to the pairs of band values. -/
def Four.zipWith {α β γ : Type} (f : α → β → γ) (x : Four α) (y : Four β) : Four γ :=
  ⟨f x.b1 y.b1, f x.b2 y.b2, f x.b3 y.b3, f x.b4 y.b4⟩

/-! ### Exact levels of rational mean squares -/

/-- Is the level of the mean square `num / den` at least `k`, for `k` above 0 (R33)? -/
def levelAtLeast (num den k : Nat) : Bool :=
  10 ^ (2 * k - 1) * den ^ 320 ≤ num ^ 320

/-- Add each weight, largest first, that keeps the level at least the sum. -/
def levelSearch (num den : Nat) : List Nat → Nat → Nat
  | [], acc => acc
  | w :: ws, acc => levelSearch num den ws (if levelAtLeast num den (acc + w) then acc + w else acc)

/-- The level of the mean square `num / den`, clamped into 0-2047 (R33). -/
def levelOf (num den : Nat) : Nat :=
  levelSearch num den [1024, 512, 256, 128, 64, 32, 16, 8, 4, 2, 1] 0

/-- The sum of the squares of a block's samples. -/
def sumSquares (samples : List Sample) : Nat :=
  (samples.map fun x => x.toInt.natAbs * x.toInt.natAbs).sum

/-- The broadband level of a block of 32 samples (R34). -/
def broadbandLevel (samples : List Sample) : Nat :=
  levelOf (sumSquares samples) 32

/-! ### Interval arithmetic on multiples of 2^-p -/

/-- The reals from `lo / 2^p` to `hi / 2^p`. -/
structure Span where
  lo : Int
  hi : Int
  deriving DecidableEq, Repr

/-- The whole part of `x / 2^p`, rounded down. -/
def floorShift (p : Nat) (x : Int) : Int := x / (2 ^ p : Nat)

/-- `x / 2^p`, rounded up. -/
def ceilShift (p : Nat) (x : Int) : Int := -((-x) / (2 ^ p : Nat))

namespace Span

/-- A whole number. -/
def ofInt (p : Nat) (k : Int) : Span := ⟨k * (2 ^ p : Nat), k * (2 ^ p : Nat)⟩

/-- Sum. -/
def add (x y : Span) : Span := ⟨x.lo + y.lo, x.hi + y.hi⟩

/-- Difference. -/
def sub (x y : Span) : Span := ⟨x.lo - y.hi, x.hi - y.lo⟩

/-- Product with a whole number. -/
def scale (k : Int) (x : Span) : Span :=
  if 0 ≤ k then ⟨k * x.lo, k * x.hi⟩ else ⟨k * x.hi, k * x.lo⟩

/-- Product. -/
def mul (p : Nat) (x y : Span) : Span :=
  let a := x.lo * y.lo
  let b := x.lo * y.hi
  let c := x.hi * y.lo
  let d := x.hi * y.hi
  ⟨floorShift p (min (min a b) (min c d)), ceilShift p (max (max a b) (max c d))⟩

/-- Quotient by a whole number above 0. -/
def divNat (x : Span) (n : Nat) : Span := ⟨x.lo / n, -((-x.hi) / n)⟩

/-- Quotient, when the divisor is enclosed above 0. -/
def div (p : Nat) (x y : Span) : Option Span :=
  if 0 < y.lo then
    some
      ⟨(x.lo * (2 ^ p : Nat)) / (if 0 ≤ x.lo then y.hi else y.lo),
       -((-(x.hi * (2 ^ p : Nat))) / (if 0 ≤ x.hi then y.lo else y.hi))⟩
  else none

/-- Widen by the magnitude of the upper bound of another span: the remainder of an alternating series is no larger than
its first term left out. -/
def widen (x t : Span) : Span := ⟨x.lo - t.hi, x.hi + t.hi⟩

end Span

/-- Integer square root by trying bits from `n - 1` down to 0 on top of `r`. -/
def sqrtBits (target : Nat) : Nat → Nat → Nat
  | 0, r => r
  | n + 1, r =>
    sqrtBits target n (if (r + 2 ^ n) * (r + 2 ^ n) ≤ target then r + 2 ^ n else r)

/-- The square root of 2. -/
def sqrtTwo (p : Nat) : Span :=
  let r := sqrtBits (2 * 4 ^ p) (p + 1) 0
  ⟨r, r + 1⟩

/-- The sum of `n` further terms of an alternating series with the first term left out as remainder. A term of odd place
is subtracted. `next k t` is the term after the `k`-th. -/
def alternating (next : Nat → Span → Span) : Nat → Nat → Span → Span → Span
  | 0, _, t, acc => acc.widen t
  | n + 1, k, t, acc =>
    alternating next n (k + 1) (next k t) (if k % 2 = 0 then acc.add t else acc.sub t)

/-- The arc tangent of 1/q: the sum over k of (-1)^k / ((2k+1) q^(2k+1)). `power` encloses 1/q^(2k+1). -/
def arctanInvSum (q : Nat) : Nat → Nat → Span → Span → Span
  | 0, k, power, acc => acc.widen (power.divNat (2 * k + 1))
  | n + 1, k, power, acc =>
    let t := power.divNat (2 * k + 1)
    arctanInvSum q n (k + 1) (power.divNat (q * q)) (if k % 2 = 0 then acc.add t else acc.sub t)

/-- The arc tangent of 1/q. -/
def arctanInv (p q : Nat) : Span :=
  arctanInvSum q (p / 4 + 2) 0 ((Span.ofInt p 1).divNat q) ⟨0, 0⟩

/-- Pi, by Machin's formula: 16 arctan(1/5) - 4 arctan(1/239). -/
def piSpan (p : Nat) : Span :=
  ((arctanInv p 5).scale 16).sub ((arctanInv p 239).scale 4)

/-- The sine of an angle between 0 and 2, by its power series. -/
def sinSpan (p : Nat) (x : Span) : Span :=
  let xx := x.mul p x
  alternating (fun k t => (t.mul p xx).divNat ((2 * k + 2) * (2 * k + 3))) (p / 4 + 8) 0 x ⟨0, 0⟩

/-- The cosine of an angle between 0 and 1.4, by its power series. -/
def cosSpan (p : Nat) (x : Span) : Span :=
  let xx := x.mul p x
  alternating (fun k t => (t.mul p xx).divNat ((2 * k + 1) * (2 * k + 2))) (p / 4 + 8) 0 (Span.ofInt p 1) ⟨0, 0⟩

/-- The tangent of pi f / fs (R23). -/
def tanSpan (p f : Nat) : Option Span :=
  let x := ((piSpan p).scale f).divNat Config.sampleRate
  (sinSpan p x).div p (cosSpan p x)

/-! ### The band filter (R23) -/

/-- The coefficients of one band filter (R23). -/
structure Filter where
  g  : Span
  a0 : Span
  a1 : Span
  a2 : Span
  a3 : Span
  a4 : Span
  deriving DecidableEq, Repr

/-- The filter of a band, from its pre-warped edges (R23): Wl, Wu, B, W0 squared, and with K = 2 fs the five c and g. -/
def filterFrom (p : Nat) (tl tu : Span) : Filter :=
  let k : Int := 2 * Config.sampleRate
  let wl := tl.scale k
  let wu := tu.scale k
  let b := wu.sub wl
  let w02 := wl.mul p wu
  let b2 := b.mul p b
  let root2b := (sqrtTwo p).mul p b
  let c4 := Span.ofInt p (k ^ 4)
  let c3 := root2b.scale (k ^ 3)
  let c2 := ((w02.scale 2).add b2).scale (k ^ 2)
  let c1 := (root2b.mul p w02).scale k
  let c0 := w02.mul p w02
  { g := b2.scale (k ^ 2)
    a0 := (((c4.add c3).add c2).add c1).add c0
    a1 := (((c4.scale (-4)).sub (c3.scale 2)).add (c1.scale 2)).add (c0.scale 4)
    a2 := ((c4.scale 6).sub (c2.scale 2)).add (c0.scale 6)
    a3 := (((c4.scale (-4)).add (c3.scale 2)).sub (c1.scale 2)).add (c0.scale 4)
    a4 := (((c4.sub c3).add c2).sub c1).add c0 }

/-- The filter a band set load derives from a band's edges (R23). -/
def filterOf (p : Nat) (band : Band) : Option Filter :=
  match tanSpan p band.lower, tanSpan p band.upper with
  | some tl, some tu => some (filterFrom p tl tu)
  | _, _ => none

/-- The filter state: the four latest inputs and the four latest outputs, newest first (R23). -/
structure FilterState where
  x1 : Int
  x2 : Int
  x3 : Int
  x4 : Int
  y1 : Span
  y2 : Span
  y3 : Span
  y4 : Span
  deriving DecidableEq, Repr

/-- The zero filter state (R23). -/
def FilterState.zero : FilterState := ⟨0, 0, 0, 0, ⟨0, 0⟩, ⟨0, 0⟩, ⟨0, 0⟩, ⟨0, 0⟩⟩

/-- What the filter has come to: its state, and the sum of the squared outputs. -/
structure FilterRun where
  state  : FilterState
  energy : Span
  deriving DecidableEq, Repr

/-- The square of an output. -/
def Span.square (p : Nat) (y : Span) : Span :=
  let s := y.mul p y
  ⟨max s.lo 0, s.hi⟩

/-- One sample through the filter (R23), its squared output added to the energy (R32). -/
def FilterRun.sample (p : Nat) (f : Filter) (r : FilterRun) (x : Int) : Option FilterRun :=
  let s := r.state
  let fed := f.g.scale (x - 2 * s.x2 + s.x4)
  let back := (((f.a1.mul p s.y1).add (f.a2.mul p s.y2)).add (f.a3.mul p s.y3)).add (f.a4.mul p s.y4)
  match (fed.sub back).div p f.a0 with
  | none => none
  | some y =>
    some ⟨⟨x, s.x1, s.x2, s.x3, y, s.y1, s.y2, s.y3⟩, r.energy.add (y.square p)⟩

/-- A list of samples through the filter, in order (R32). -/
def FilterRun.samples (p : Nat) (f : Filter) : List Int → FilterRun → Option FilterRun
  | [], r => some r
  | x :: xs, r =>
    match r.sample p f x with
    | none => none
    | some r' => FilterRun.samples p f xs r'

/-- The blocks of a vibration as one band hears them: the band's edges and the samples. -/
abbrev BandHistory := List (Band × List Sample)

/-- The filter of a band, kept from the block before when that block had the same band. -/
def filterKept (p : Nat) (kept : Option (Band × Filter)) (band : Band) : Option Filter :=
  match kept with
  | none => filterOf p band
  | some (b, f) => if b = band then some f else filterOf p band

/-- The accepted VIBE blocks through a band's filter, each continuing from the state the one before left (R32). -/
def FilterRun.blocks (p : Nat) : Option (Band × Filter) → BandHistory → FilterRun → Option FilterRun
  | _, [], r => some r
  | kept, (band, xs) :: rest, r =>
    match filterKept p kept band with
    | none => none
    | some f =>
      match FilterRun.samples p f (xs.map BitVec.toInt) r with
      | none => none
      | some r' => FilterRun.blocks p (some (band, f)) rest r'

/-- The number of samples a band has heard. -/
def samplesHeard (h : BandHistory) : Nat :=
  (h.map fun b => b.2.length).sum

/-- The first precision for a history: it outgrows the widening of the spans, less than 4 bits a sample (log 12). -/
def precision (h : BandHistory) : Nat :=
  256 + 4 * samplesHeard h

/-- The band energy sum over the accepted VIBE blocks (R32), enclosed at a precision. -/
def bandEnergy (p : Nat) (h : BandHistory) : Option Span :=
  match FilterRun.blocks p none h ⟨FilterState.zero, ⟨0, 0⟩⟩ with
  | none => none
  | some r => some r.energy

/-- The levels of the two bounds of a band's mean square: the energy sum divided by 32 times the blocks counted (R33). There
are none where a band out of the range of R22 has no filter (log 18). -/
def levelBounds (p counted : Nat) (h : BandHistory) : Option (Nat × Nat) :=
  (bandEnergy p h).map fun e =>
    (levelOf e.lo.toNat (2 ^ p * (32 * counted)), levelOf e.hi.toNat (2 ^ p * (32 * counted)))

/-- How often the precision is doubled, at most (log 13). -/
def refinements : Nat := 40

/-- The level of a mean square, by bounds that are drawn closer until they round alike. Bounds that still differ at the last
precision stand on either side of the mean square's own rounding boundary, and a half is rounded upward (R33; log 13). -/
def refinedLevel (counted : Nat) (h : BandHistory) : Nat → Nat → Nat
  | 0, p =>
    match levelBounds p counted h with
    | some b => b.2
    | none => 0
  | n + 1, p =>
    match levelBounds p counted h with
    | some b => if b.1 = b.2 then b.1 else refinedLevel counted h n (2 * p)
    | none => 0

/-- A band's level (R33): 0 with no VIBE block counted; otherwise the level of the energy sum divided by 32 times the blocks
counted. -/
def bandLevel (counted : Nat) (h : BandHistory) : Nat :=
  if counted = 0 then 0 else refinedLevel counted h refinements (precision h)

/-- The blocks as band `sel` hears them. -/
def VibePart.history (v : VibePart) (sel : BandSet → Band) : BandHistory :=
  v.heard.map fun b => (sel b.bands, b.samples)

/-- The four band levels of an accumulator (R33, R39). -/
def VibePart.levels (v : VibePart) : Four Nat where
  b1 := bandLevel v.counted (v.history Four.b1)
  b2 := bandLevel v.counted (v.history Four.b2)
  b3 := bandLevel v.counted (v.history Four.b3)
  b4 := bandLevel v.counted (v.history Four.b4)

end Sys2Proof.Machine
end

