-- ==== Sys2Proof/Machine/Judgement.lean ====
section
/-! DEFINITION. The verdict unit: verdicts, the suspect list, drift, streaks, the Finding, and the one step of judgement
completion (chapters 4, 5 and 6). -/

namespace Sys2Proof.Machine

/-! ### Verdicts (section 5.2) -/

/-- The ring-down the verdict unit reads; none is CUT (R36). -/
def RingPart.ringDown (r : RingPart) : Option Nat :=
  match r.state with
  | .ended => some r.count
  | .waiting => none
  | .counting => none
  | .gap => none

/-- The blind causes that hold (R76). -/
def blindCauses (silenced : BitVec 8) (h : MouldHeader) (m : Mapping) (v : VibePart) : BlindSet :=
  BitVec.ofBoolListLE [silenced.getLsbD m.pod.val, v.counted < h.minVibe, h.gapLimit < v.missing]

/-- Does a masked band deviate (R77)? -/
def bandDeviates (place : Option BandProfile) (level : Nat) : Bool :=
  match place with
  | some b => (b.tolerance : Int) < ((level : Int) - b.current).natAbs
  | none => false

/-- Do the hits deviate (R78)? -/
def hitsDeviate (limit : Option Nat) (hits : Nat) : Bool :=
  match limit with
  | some l => l < hits
  | none => false

/-- Does the ring-down deviate (R79)? -/
def ringDeviates (window : Option (Nat × Nat)) (ringDown : Option Nat) : Bool :=
  match window, ringDown with
  | some w, some n => n < w.1 || w.2 < n
  | _, _ => false

/-- The ring-cut marker of a compared profile (R79). -/
def ringCutOf (window : Option (Nat × Nat)) (ringDown : Option Nat) : Bool :=
  window.isSome && ringDown.isNone

/-- The deviation set of a compared profile (R77, R78, R79). -/
def deviationsOf (p : Profile) (levels : Four Nat) (hits : Nat) (ringDown : Option Nat) : DevSet :=
  BitVec.ofBoolListLE
    [bandDeviates p.bands.b1 levels.b1, bandDeviates p.bands.b2 levels.b2, bandDeviates p.bands.b3 levels.b3,
     bandDeviates p.bands.b4 levels.b4, hitsDeviate p.hitLimit hits, ringDeviates p.ringWindow ringDown]

/-- A level is reported for a band of the mask (R88); a place outside it holds 0 (R192). -/
def maskedLevel (place : Option BandProfile) (level : Nat) : Nat :=
  match place with
  | some _ => level
  | none => 0

/-- The result of a SKIP (R75, R88). -/
def skipResult (p : Profile) : SummaryEntry where
  watchPoint := p.watchPoint
  verdict := .skip
  levels := ⟨0, 0, 0, 0⟩
  hits := 0
  ringDown := none
  deviations := 0
  ringCut := false
  blind := 0
  counted := 0
  missing := 0
  standing := .notListed

/-- The result of a mapped profile (R76 to R80), its suspect state not yet read. -/
def mappedResult (silenced : BitVec 8) (h : MouldHeader) (p : Profile) (m : Mapping) (x : Accumulator) : SummaryEntry :=
  let levels := Four.zipWith maskedLevel p.bands x.vibe.levels
  let ringDown := x.ring.ringDown
  let blind := blindCauses silenced h m x.vibe
  let dev := deviationsOf p levels x.strip.hits ringDown
  let isBlind := blind != 0
  { watchPoint := p.watchPoint
    verdict := if isBlind then .blind else if dev = 0 then .clean else .deviate
    levels := levels
    hits := x.strip.hits
    ringDown := ringDown
    deviations := if isBlind then 0 else dev
    ringCut := !isBlind && ringCutOf p.ringWindow ringDown
    blind := blind
    counted := x.vibe.counted
    missing := x.vibe.missing
    standing := .notListed }

/-- The result of one profile (R75 to R80). -/
def judgeProfile (r : CycleRecord) (h : MouldHeader) (p : Profile) : SummaryEntry :=
  match r.accs.find? fun x => x.watchPoint == p.watchPoint with
  | none => skipResult p
  | some x =>
    match x.mapping with
    | none => skipResult p
    | some m => mappedResult r.silenced h p m x

/-- The results of a judgement, in ascending watch point number (R75). -/
def judgeAll (r : CycleRecord) (m : MouldRecord) : List SummaryEntry :=
  m.profiles.map (judgeProfile r m.header)

/-! ### The suspect list (chapter 6) -/

/-- Does the entry name the slot and watch point? -/
def SuspectEntry.names (e : SuspectEntry) (slot : Fin 16) (wp : Fin 24) : Bool :=
  e.slot == slot && e.watchPoint == wp

/-- The entry for a slot and watch point; there is at most one (R92). -/
def entryFor (list : List SuspectEntry) (slot : Fin 16) (wp : Fin 24) : Option SuspectEntry :=
  list.find? fun e => e.names slot wp

/-- A list with the entry for a slot and watch point changed in its place (R92). -/
def updateEntry (list : List SuspectEntry) (slot : Fin 16) (wp : Fin 24) (f : SuspectEntry → SuspectEntry) :
    List SuspectEntry :=
  list.map fun e => if e.names slot wp then f e else e

/-- A list without the entry for a slot and watch point; those after it move up (R92). -/
def removeEntry (list : List SuspectEntry) (slot : Fin 16) (wp : Fin 24) : List SuspectEntry :=
  list.filter fun e => !e.names slot wp

/-- A window with a result appended; one that already holds N drops its oldest first (R97, R98). -/
def pushWindow (n : Nat) (window : List Judged) (x : Judged) : List Judged :=
  (if window.length < n then window else window.drop 1) ++ [x]

/-- The D count of a window (R93). -/
def dCount (window : List Judged) : Nat := window.countP fun x => x == .deviate

/-- An entry becomes CONFIRMED when its D count has reached K (R100). -/
def confirmAt (k : Nat) (cycle : Half) (e : SuspectEntry) : SuspectEntry :=
  if dCount e.window = k then { e with state := .confirmed, confirmedCycle := some cycle } else e

/-- A new entry (R96), CONFIRMED at once when K is 1. -/
def newEntry (k : Nat) (slot : Fin 16) (cycle : Half) (wp : Fin 24) (dev : DevSet) : SuspectEntry :=
  confirmAt k cycle ⟨slot, wp, .suspect, cycle, [.deviate], dev, none⟩

/-- A SUSPECT entry after a DEVIATE result (R97). -/
def deviateEntry (k n : Nat) (cycle : Half) (dev : DevSet) (e : SuspectEntry) : SuspectEntry :=
  confirmAt k cycle { e with window := pushWindow n e.window .deviate, lastDev := dev }

/-- A SUSPECT entry after a CLEAN result (R98). -/
def cleanEntry (n : Nat) (e : SuspectEntry) : SuspectEntry :=
  { e with window := pushWindow n e.window .clean }

/-- Is a window one that retires its entry (R98)? -/
def retires (n : Nat) (window : List Judged) : Bool := window.length == n && dCount window == 0

/-- The list in the course of a completion, and the watch points whose entry was added, became CONFIRMED, or found the list
full. -/
structure ListRun where
  list      : List SuspectEntry
  added     : List (Fin 24)
  confirmed : List (Fin 24)
  full      : List (Fin 24)
  deriving DecidableEq, Repr

/-- Note a watch point whose entry is CONFIRMED after its update. -/
def noteConfirmed (e : SuspectEntry) (wp : Fin 24) (confirmed : List (Fin 24)) : List (Fin 24) :=
  if e.state = .confirmed then confirmed ++ [wp] else confirmed

/-- A DEVIATE result reaches the list (R96, R97, R99, R102). -/
def ListRun.deviate (u : ListRun) (k n : Nat) (slot : Fin 16) (cycle : Half) (wp : Fin 24) (dev : DevSet) : ListRun :=
  match entryFor u.list slot wp with
  | none =>
    if u.list.length < Config.suspectCapacity then
      let e := newEntry k slot cycle wp dev
      { u with list := u.list ++ [e], added := u.added ++ [wp], confirmed := noteConfirmed e wp u.confirmed }
    else { u with full := u.full ++ [wp] }
  | some e =>
    match e.state with
    | .suspect =>
      let e' := deviateEntry k n cycle dev e
      { u with
        list := updateEntry u.list slot wp fun _ => e'
        confirmed := noteConfirmed e' wp u.confirmed }
    | .confirmed => { u with list := updateEntry u.list slot wp fun x => { x with lastDev := dev } }

/-- A CLEAN result reaches the list (R98, R99). -/
def ListRun.clean (u : ListRun) (n : Nat) (slot : Fin 16) (wp : Fin 24) : ListRun :=
  match entryFor u.list slot wp with
  | none => u
  | some e =>
    match e.state with
    | .confirmed => u
    | .suspect =>
      let e' := cleanEntry n e
      if retires n e'.window then { u with list := removeEntry u.list slot wp }
      else { u with list := updateEntry u.list slot wp fun _ => e' }

/-- One result reaches the list (R95). -/
def ListRun.take (u : ListRun) (h : MouldHeader) (slot : Fin 16) (cycle : Half) (x : SummaryEntry) : ListRun :=
  match x.verdict with
  | .deviate => u.deviate h.k h.n slot cycle x.watchPoint x.deviations
  | .clean => u.clean h.n slot x.watchPoint
  | .blind => u
  | .skip => u

/-- The results of a judgement reach the list, in ascending watch point number (R95, R103). -/
def listRun (list : List SuspectEntry) (h : MouldHeader) (slot : Fin 16) (cycle : Half) (xs : List SummaryEntry) :
    ListRun :=
  xs.foldl (fun u x => u.take h slot cycle x) ⟨list, [], [], []⟩

/-- The suspect state after judgement (R83). -/
def standingOf (u : ListRun) (slot : Fin 16) (wp : Fin 24) : Standing :=
  match entryFor u.list slot wp with
  | some e =>
    match e.state with
    | .suspect => .suspect
    | .confirmed => .confirmed
  | none => if u.full.contains wp then .listFull else .notListed

/-! ### Drift and streaks (sections 4.2 and 4.3) -/

/-- The unclamped value of a drift step: the difference over 2^shift, rounded toward zero, added (R61). -/
def driftTarget (shift : Nat) (b : BandProfile) (level : Nat) : Int :=
  b.current + Int.tdiv ((level : Int) - b.current) (2 ^ shift : Nat)

/-- The lower end of the permitted interval (R61). -/
def driftLow (limit : Nat) (b : BandProfile) : Int := max 0 ((b.loaded : Int) - limit)

/-- The upper end of the permitted interval (R61). -/
def driftHigh (limit : Nat) (b : BandProfile) : Int := min 2047 ((b.loaded : Int) + limit)

/-- A masked band's baseline after a drift step (R61). -/
def driftBand (h : MouldHeader) (place : Option BandProfile) (level : Nat) : Option BandProfile :=
  place.map fun b =>
    { b with
      current :=
        (max (driftLow h.driftLimit b) (min (driftHigh h.driftLimit b) (driftTarget h.driftShift b level))).toNat }

/-- Does the clamp act on a band (R61)? -/
def clampActs (h : MouldHeader) (place : Option BandProfile) (level : Nat) : Bool :=
  match place with
  | some b =>
    driftTarget h.driftShift b level < driftLow h.driftLimit b || driftHigh h.driftLimit b < driftTarget h.driftShift b level
  | none => false

/-- Does drift tracking apply to a result (R60)? `list` is the suspect list as the completion found it. -/
def drifts (list : List SuspectEntry) (h : MouldHeader) (slot : Fin 16) (x : SummaryEntry) : Bool :=
  x.verdict == .clean && (entryFor list slot x.watchPoint).isNone && 0 < h.driftShift

/-- A blind streak after a result (R59, R82). -/
def streakAfter (v : Verdict) (streak : Nat) : Nat :=
  match v with
  | .blind => min 15 (streak + 1)
  | .deviate => 0
  | .clean => 0
  | .skip => streak

/-- Does a streak reach the limit by a result (R82)? -/
def reachesLimit (limit : Nat) (v : Verdict) (streak : Nat) : Bool :=
  v == .blind && streak < limit && streakAfter v streak == limit

/-- The result for a profile, by its watch point. -/
def resultFor (xs : List SummaryEntry) (p : Profile) : Option SummaryEntry :=
  xs.find? fun x => x.watchPoint == p.watchPoint

/-- A profile after a completion (R60, R61, R82). -/
def profileAfter (list : List SuspectEntry) (h : MouldHeader) (slot : Fin 16) (xs : List SummaryEntry) (p : Profile) :
    Profile :=
  match resultFor xs p with
  | none => p
  | some x =>
    { p with
      bands := if drifts list h slot x then Four.zipWith (driftBand h) p.bands x.levels else p.bands
      blindStreak := streakAfter x.verdict p.blindStreak }

/-- Does the drift clamp act on a profile (R61)? -/
def driftLimited (list : List SuspectEntry) (h : MouldHeader) (slot : Fin 16) (xs : List SummaryEntry) (p : Profile) : Bool :=
  match resultFor xs p with
  | none => false
  | some x =>
    drifts list h slot x &&
      (clampActs h p.bands.b1 x.levels.b1 || clampActs h p.bands.b2 x.levels.b2 ||
       clampActs h p.bands.b3 x.levels.b3 || clampActs h p.bands.b4 x.levels.b4)

/-- Is WATCH LOST raised for a profile (R82)? -/
def watchLostBy (limit : Option Nat) (xs : List SummaryEntry) (p : Profile) : Bool :=
  match limit, resultFor xs p with
  | some l, some x => reachesLimit l x.verdict p.blindStreak
  | _, _ => false

/-- A slot after a completion (R59, R61, R82): the judged count rises by 1 and saturates. -/
def mouldAfter (list : List SuspectEntry) (slot : Fin 16) (xs : List SummaryEntry) (m : MouldRecord) : MouldRecord where
  header := m.header
  profiles := m.profiles.map (profileAfter list m.header slot xs)
  judged := min 4294967295 (m.judged + 1)

/-! ### The Finding (section 5.4) -/

/-- Is a result DEVIATE or BLIND? -/
def isReported (x : SummaryEntry) : Bool := x.verdict == .deviate || x.verdict == .blind

/-- A result as a Finding lists it (R86). -/
def findingResult (x : SummaryEntry) : FindingResult :=
  ⟨x.watchPoint, x.verdict, x.deviations, x.ringCut, x.standing⟩

/-- The results a Finding lists; none when no Finding is queued (R85). -/
def findingResults (everyCycle : Bool) (xs : List SummaryEntry) : Option (List FindingResult) :=
  if everyCycle then some (xs.map findingResult)
  else if xs.any isReported then some ((xs.filter isReported).map findingResult)
  else none

/-! ### The trace trigger (section 5.6) -/

/-- The trace buffer after the trigger (R90, R190). -/
def Trace.trigger (t : Trace) (trigger : TraceTrigger) (deviated confirmed : Bool) : Trace :=
  match t with
  | .running ch ring =>
    match trigger with
    | .manual => t
    | .onDeviate => if deviated then .frozen ch ring else t
    | .onConfirm => if confirmed then .frozen ch ring else t
  | .frozen _ _ => t
  | .off => t

/-- The traced watch point, in RUNNING (R90). -/
def tracedPoint (t : Trace) (channels : List ChannelEntry) : Option (Fin 24) :=
  match t with
  | .running ch _ => (channels[ch]?).map ChannelEntry.watchPoint
  | .frozen _ _ => none
  | .off => none

namespace State

/-! ### Judgement completion (section 5.3) -/

/-- The results with their suspect states (R83). -/
def rulings (u : ListRun) (slot : Fin 16) (xs : List SummaryEntry) : List SummaryEntry :=
  xs.map fun x => { x with standing := standingOf u slot x.watchPoint }

/-- The slot's profiles and judged count take the effect of the completion (R59, R61, R82). -/
def applyToSlot (s : State) (list : List SuspectEntry) (slot : Fin 16) (xs : List SummaryEntry) : State :=
  match s.mould slot with
  | some m => s.setMould slot (mouldAfter list slot xs m)
  | none => s

/-- The last-judged summary is replaced (R88). -/
def replaceSummary (s : State) (x : Summary) : State :=
  s.setVerdict { s.verdict with summary := some x }

/-- The completion's Finding, if one is called for, is placed or refused (R85, R87). -/
def offerFinding (s : State) (x : Summary) : State :=
  match findingResults ((s.tables.setup.map Setup.reportEvery).getD false) x.entries with
  | some results => s.offerNonReply (.finding ⟨x.cycle, x.slot, x.serial, results⟩)
  | none => s

/-- The trace trigger is evaluated (R90, R190). -/
def applyTrigger (s : State) (u : ListRun) (xs : List SummaryEntry) : State :=
  match tracedPoint s.trace s.tables.channels with
  | some wp =>
    s.setTrace
      (s.trace.trigger ((s.tables.setup.map Setup.trigger).getD .manual)
        (xs.any fun x => x.watchPoint == wp && x.verdict == .deviate) (u.confirmed.contains wp))
  | none => s

/-- The conditions of a completion, each raised once (R84, R101). -/
def raiseJudged (s : State) (u : ListRun) (limited lost : Bool) : State :=
  ((((s.raiseIf (!u.added.isEmpty) .suspect).raiseIf (!u.confirmed.isEmpty) .crack).raiseIf (!u.full.isEmpty)
    .listFull).raiseIf limited .driftLimit).raiseIf lost .watchLost

/-- The judged record goes FREE, the verdict unit is idle, and a record in WAIT goes to JUDGING at once (R14, R72). -/
def endJudgement (s : State) (i : RecId) : State :=
  let t := (s.freeRec i).setVerdict { s.verdict with judging := none }
  if (t.tracker.get i.other).state = .wait then t.startJudgement i.other else t

/-- The effects of a completion on the state that the record's slot and number select (R81). -/
def applyJudgement (s : State) (j : Judging) (slot : Fin 16) (cycle : Half) : State :=
  let found := judgeAll (s.tracker.get j.record) j.mould
  let u := listRun s.suspects j.mould.header slot cycle found
  let xs := rulings u slot found
  let summary : Summary := ⟨cycle, slot, j.mould.header.serial, xs⟩
  let profiles := match s.mould slot with
    | some m => m.profiles
    | none => []
  let header := match s.mould slot with
    | some m => m.header
    | none => j.mould.header
  let limited := profiles.any (driftLimited s.suspects header slot xs)
  let lost := profiles.any (watchLostBy (s.tables.setup.map Setup.blindLimit) xs)
  (((((s.setSuspects u.list).applyToSlot s.suspects slot xs).replaceSummary summary).offerFinding summary).applyTrigger
    u xs).raiseJudged u limited lost

/-- Judgement completion (R81): every effect in one step, then the record goes FREE. -/
def completeJudgement (s : State) (j : Judging) : State :=
  match (s.tracker.get j.record).slot, (s.tracker.get j.record).number with
  | some slot, some cycle => (s.applyJudgement j slot cycle).endJudgement j.record
  | _, _ => s.endJudgement j.record

end State

/-- JUDGEMENT_COMPLETION (R81). -/
def execJudgementCompletion (s : State) : Host.Outcome State Fault Refusal :=
  match s.verdict.judging with
  | some j => stepped (fun t => t.completeJudgement j) s
  | none => noEvent s

end Sys2Proof.Machine
end

