-- ==== Sys2Proof/Machine/Tracker.lean ====
section
/-! DEFINITION. The cycle tracker: the Marks, the cycle timer and the grace timer (chapter 1). -/

namespace Sys2Proof.Machine

namespace State

/-! ### Opening a record -/

/-- A mould becomes CONFIRMED with a fresh snapshot (R5, R44, R51). -/
def confirm (s : State) (code : Fin 16) (clamp : Bool) : State :=
  s.setMouldState (.confirmed ⟨code, clamp⟩)

/-- Auto confirm, the first step in taking an OPEN (R5). -/
def autoConfirm (s : State) : State :=
  match s.monitor.state, s.tables.setup, s.monitor.code.debounced, s.monitor.clamp.debounced with
  | .unconfirmed, some su, some code, some clamp =>
    match s.mould code with
    | some m => if su.autoConfirm && m.header.autoEligible then s.confirm code clamp else s
    | none => s
  | _, _, _, _ => s

/-- The mapping of a watch point: the channel entry whose watch point it is (R29). -/
def mappingOf (s : State) (wp : Fin 24) : Option Mapping :=
  match s.tables.channels.findIdx? fun e => e.watchPoint == wp with
  | some i =>
    match s.tables.channels[i]? with
    | some e => some ⟨i, e.pod⟩
    | none => none
  | none => none

/-- An accumulator as it is set up when a record opens (R29). -/
def freshAcc (s : State) (p : Profile) : Accumulator where
  watchPoint := p.watchPoint
  mapping := s.mappingOf p.watchPoint
  vibe := ⟨0, 0, none, []⟩
  ring := ⟨.waiting, 0, none⟩
  strip := ⟨0, 0, none⟩

/-- The accumulators of a record that opens with the given mould slot (R29). -/
def freshAccs (s : State) (slot : Option (Fin 16)) : List Accumulator :=
  match slot with
  | none => []
  | some i =>
    match s.mould i with
    | some m => m.profiles.map s.freshAcc
    | none => []

/-- A record opened on a cycle number (R3, R6): its mould slot is the installed slot. -/
def openedRecord (s : State) (number : Half) : CycleRecord where
  state := .opened .fill
  number := some number
  slot := s.installed
  entered := ⟨false, false, false, false⟩
  silenced := 0
  accs := s.freshAccs s.installed
  cycleTimer := s.tables.setup.map fun su => su.cycleLimit * 100
  graceTimer := none

/-- A record opens on a cycle number; the untracked number is cleared (R6). -/
def openRecord (s : State) (i : RecId) (number : Half) : State :=
  let t := s.setRec i (s.openedRecord number)
  t.setTracker { t.tracker with untracked := none }

/-- An OPEN that finds an OPEN record abandons it with MARK ORDER (R6). -/
def abandonOpen (s : State) : State :=
  match s.tracker.openRec with
  | some i => (s.abandon i).raise .markOrder
  | none => s

/-- The cycle of an OPEN finds its record, or is not tracked (R6). -/
def placeCycle (s : State) (number : Half) : State :=
  match s.tracker.freeRec with
  | some i => s.openRecord i number
  | none => (s.setTracker { s.tracker with untracked := some number }).raise .queueOverrun

/-- The unsynchronised indication is cleared (R4, R6). -/
def synchronise (s : State) : State := s.setTracker { s.tracker with unsync := false }

/-- An OPEN Mark is taken (R6). -/
def takeOpening (s : State) (number : Half) : State :=
  (s.abandonOpen.autoConfirm.placeCycle number).synchronise

/-! ### The other Marks -/

/-- The record a non-OPEN Mark matches, with its phase (R4). -/
def matching (s : State) (number : Half) : Option (RecId × Phase) :=
  match s.tracker.a.state, s.tracker.b.state with
  | .opened p, .opened q =>
    if s.tracker.a.number = some number then some (.a, p)
    else if s.tracker.b.number = some number then some (.b, q) else none
  | .opened p, _ => if s.tracker.a.number = some number then some (.a, p) else none
  | _, .opened q => if s.tracker.b.number = some number then some (.b, q) else none
  | _, _ => none

/-- Is a cycle number known to the tracker (R4)? -/
def known (s : State) (number : Half) : Bool :=
  s.tracker.a.number == some number || s.tracker.b.number == some number || s.tracker.untracked == some number

/-- A Mark that matches no OPEN record (R11). -/
def takeUnmatched (s : State) (number : Half) : State :=
  s.raiseIf (!(s.known number || s.tracker.unsync)) .markOrder

end State

/-- The new phase of a phase Mark taken in a phase (R7); none where the table does not list the phase. -/
def phaseAfter : MarkKind → Phase → Option Phase
  | .vibeOn, .fill => some .vibe
  | .vibeOn, .ring => some .vibe
  | .vibeOff, .vibe => some .ring
  | .stripStart, .ring => some .strip
  | .stripEnd, .strip => some .settle
  | _, _ => none

/-- Phases entered after an entry (R3, R7). -/
def PhasesEntered.add (e : PhasesEntered) : Phase → PhasesEntered
  | .fill => e
  | .vibe => { e with vibe := true }
  | .ring => { e with ring := true }
  | .strip => { e with strip := true }
  | .settle => { e with settle := true }

/-- Re-vibration restarts the ring-down and re-bases the VIBE sequence (R31). -/
def Accumulator.revibrate (x : Accumulator) : Accumulator :=
  { x with vibe := { x.vibe with last := none }, ring := ⟨.waiting, 0, none⟩ }

/-- Is the phase one in which silence counts (R147)? -/
def Phase.counts : Phase → Bool
  | .vibe => true
  | .ring => true
  | .strip => true
  | .fill => false
  | .settle => false

namespace State

/-- A record goes from one phase to another (R7, R31, R147). -/
def enterPhase (s : State) (i : RecId) (old new : Phase) : State :=
  let r := s.tracker.get i
  s.setRec i
    { r with
      state := .opened new
      entered := r.entered.add new
      silenced := if new.counts then r.silenced ||| s.silentPods else r.silenced
      accs := if old = .ring ∧ new = .vibe then r.accs.map Accumulator.revibrate else r.accs }

/-- A record's grace timer expires (R13). -/
def graceExpires (s : State) (i : RecId) : State :=
  let r := s.tracker.get i
  if r.slot.isNone then s.freeRec i
  else if (s.tracker.get i.other).state = .judging then
    s.setRec i { r with state := .wait, graceTimer := none }
  else s.startJudgement i

/-- A legal CLOSE: the record goes to GRACE, its cycle timer stops and its grace timer starts; a close grace of 0 ms expires as
soon as it starts, in the step of the CLOSE (R8; log 5). -/
def closeRec (s : State) (i : RecId) : State :=
  let r := s.tracker.get i
  let grace := (s.tables.setup.map Setup.closeGrace).getD 0
  let t := s.setRec i { r with state := .grace, cycleTimer := none, graceTimer := some grace }
  let u := t.setTracker { t.tracker with lastClosed := some i }
  if grace = 0 then u.graceExpires i else u

/-- A Mark that is not legal in the record's phase (R10). -/
def illegalMark (s : State) (i : RecId) : State := (s.abandon i).raise .markOrder

/-- A non-OPEN Mark that matches an OPEN record in a phase (R7, R8, R9, R10). -/
def takeMatched (s : State) (kind : MarkKind) (i : RecId) (phase : Phase) : State :=
  match kind with
  | .abort => s.abandon i
  | .close => if phase = .settle then s.closeRec i else s.illegalMark i
  | _ =>
    match phaseAfter kind phase with
    | some new => s.enterPhase i phase new
    | none => s.illegalMark i

/-- The tracker takes a Mark (R1, R4). -/
def takeMark (s : State) (kind : MarkKind) (number : Half) : State :=
  match kind with
  | .opening => s.takeOpening number
  | _ =>
    match s.matching number with
    | some (i, phase) => s.takeMatched kind i phase
    | none => s.takeUnmatched number

/-! ### Timers -/

/-- An OPEN record's cycle timer expires (R12). -/
def cycleExpires (s : State) (i : RecId) : State := (s.abandon i).raise .cycleTimeout

/-- Does the record's running grace timer expire next? Of two records in GRACE, the one whose CLOSE was taken first
expires first (R13; log 4). -/
def graceMayExpire (s : State) (i : RecId) : Bool :=
  let r := s.tracker.get i
  let o := s.tracker.get i.other
  r.state == .grace && r.graceTimer.isSome && !(o.state == .grace && s.tracker.lastClosed == some i)

end State

/-- CYCLE_TIMER_EXPIRY (R12). -/
def execCycleTimerExpiry (i : RecId) (s : State) : Host.Outcome State Fault Refusal :=
  if (s.tracker.get i).isOpen && (s.tracker.get i).cycleTimer.isSome then stepped (fun t => t.cycleExpires i) s
  else noEvent s

/-- GRACE_EXPIRY (R13). -/
def execGraceExpiry (i : RecId) (s : State) : Host.Outcome State Fault Refusal :=
  if s.graceMayExpire i then stepped (fun t => t.graceExpires i) s else noEvent s

end Sys2Proof.Machine
end

