-- ==== Sys2Proof/Machine/MouldMonitor.lean ====
section
/-! DEFINITION. The mould monitor: the debouncers and the mould state (chapter 3). -/

namespace Sys2Proof.Machine

/-- A debouncer takes a change of its raw value (R42, R43). A period with no debounced value is a first period, which a raw
change restarts and never ends. -/
def Debouncer.rawChange {α : Type} [DecidableEq α] (d : Debouncer α) (raw : α) : Debouncer α :=
  if d.debounced = some raw then { d with raw := raw, candidate := none, timer := none }
  else { d with raw := raw, candidate := some raw, timer := some Config.debounceTime }

/-- A debouncer's timer expires: the debounced value takes the candidate, and the period ends (R42). -/
def Debouncer.expire {α : Type} (d : Debouncer α) : Debouncer α :=
  match d.candidate with
  | some c => { d with debounced := some c, candidate := none, timer := none }
  | none => d

/-- Is a debounce period in progress? -/
def Debouncer.busy {α : Type} (d : Debouncer α) : Bool := d.candidate.isSome && d.timer.isSome

namespace State

/-- The mould leaves CONFIRMED: an OPEN record that carries a slot is abandoned with reason MOULD (R17, R46). -/
def abandonMoulded (s : State) : State :=
  match s.tracker.openRec with
  | some i => if (s.tracker.get i).slot.isSome then s.abandon i else s
  | none => s

/-- The mould leaves CONFIRMED at a debounced change: MOULD CHANGED is raised (R45, R46, R48). -/
def departConfirmed (s : State) (after : MouldState) : State :=
  ((s.setMouldState after).abandonMoulded).raise .mouldChanged

/-- A debounced value has changed, and the mould state follows (R45). From NONE the state becomes UNCONFIRMED once both
debounced values are present and CLAMP is asserted. -/
def mouldFollows (s : State) (input : Input) : State :=
  let clamped := s.monitor.clamp.debounced
  match s.monitor.state with
  | .none =>
    if clamped = some true ∧ s.monitor.code.debounced.isSome then s.setMouldState .unconfirmed else s
  | .unconfirmed => if clamped = some true then s else s.setMouldState .none
  | .confirmed _ =>
    match input with
    | .code => s.departConfirmed .unconfirmed
    | .clamp => if clamped = some true then s else s.departConfirmed .none

/-- The code debouncer takes a content. -/
def setCode (s : State) (d : Debouncer (Fin 16)) : State := s.setMonitor { s.monitor with code := d }

/-- The CLAMP debouncer takes a content. -/
def setClamp (s : State) (d : Debouncer Bool) : State := s.setMonitor { s.monitor with clamp := d }

/-- A raw value changes (R42). -/
def rawChanges (s : State) : RawInput → State
  | .code x => s.setCode (s.monitor.code.rawChange x)
  | .clamp x => s.setClamp (s.monitor.clamp.rawChange x)

/-- A debounce timer expires (R42, R45). -/
def debounceExpires (s : State) : Input → State
  | .code => (s.setCode s.monitor.code.expire).mouldFollows .code
  | .clamp => (s.setClamp s.monitor.clamp.expire).mouldFollows .clamp

/-- Is this value a change of the raw value (R41)? -/
def rawDiffers (s : State) : RawInput → Bool
  | .code x => s.monitor.code.raw != x
  | .clamp x => s.monitor.clamp.raw != x

/-- Is a debounce period of the input in progress? -/
def debouncing (s : State) : Input → Bool
  | .code => s.monitor.code.busy
  | .clamp => s.monitor.clamp.busy

end State

/-- RAW_VALUE_CHANGE (R42). -/
def execRawValueChange (x : RawInput) (s : State) : Host.Outcome State Fault Refusal :=
  if s.rawDiffers x then stepped (fun t => t.rawChanges x) s else noEvent s

/-- DEBOUNCE_TIMER_EXPIRY (R42, R43, R45). -/
def execDebounceTimerExpiry (x : Input) (s : State) : Host.Outcome State Fault Refusal :=
  if s.debouncing x then stepped (fun t => t.debounceExpires x) s else noEvent s

end Sys2Proof.Machine
end

