-- ==== Sys2Proof/Machine/Evidence.lean ====
section
/-! DEFINITION. The requests about moulds, suspects, cycles, conditions and the trace buffer (chapters 3 to 7 and 11). -/

namespace Sys2Proof.Machine

/-- The watch point number of the first item beyond a page. -/
def nextPoint {α : Type} (wp : α → Fin 24) (size : Nat) (xs : List α) : Option (Fin 24) :=
  ((xs.drop size).head?).map wp

/-- The items from a starting watch point on. -/
def fromPoint {α : Type} (wp : α → Fin 24) (start : Nat) (xs : List α) : List α :=
  xs.filter fun x => start ≤ (wp x).val

/-! ### Moulds -/

/-- R69. -/
def actReadMould : Act := fun r s =>
  let start := byteAt r.body 1
  if h : byteAt r.body 0 < 16 then
    if 24 ≤ start then (s, .badArgument)
    else
      match s.mould ⟨byteAt r.body 0, h⟩ with
      | none => (s, .notFound)
      | some m =>
        let ps := fromPoint Profile.watchPoint start m.profiles
        (s, .ok (.mould m.header m.judged (ps.take 6) (nextPoint Profile.watchPoint 6 ps)))
  else (s, .badArgument)

/-- R50 and R51, the checks in their order. -/
def actConfirmMould : Act := fun r s =>
  if h : byteAt r.body 0 < 16 then
    let code : Fin 16 := ⟨byteAt r.body 0, h⟩
    let serial : Word := BitVec.ofNat 32 (wordAt r.body 1)
    if s.monitor.clamp.debounced ≠ some true then (s, .refused .noClamp 0)
    else if s.monitor.code.debounced ≠ some code then (s, .refused .codeMismatch 0)
    else
      match s.mould code with
      | none => (s, .refused .emptySlot 0)
      | some m =>
        if m.header.serial ≠ serial then (s, .refused .serialMismatch 0)
        else (s.setMouldState (.confirmed ⟨code, true⟩), .ok (.confirmed code m.header.serial))
  else (s, .badArgument)

/-! ### Suspects -/

/-- Entries with their indices. -/
def indexed (list : List SuspectEntry) : List (Nat × SuspectEntry) :=
  (List.range list.length).zip list

/-- R110. -/
def actReadSuspects : Act := fun r s =>
  let start := byteAt r.body 0
  if 32 ≤ start then (s, .badArgument)
  else (s, .ok (.suspects s.suspects.length (((indexed s.suspects).drop start).take 8)))

/-- A band with its current baseline at the loaded one (R70). -/
def relearnBand (place : Option BandProfile) : Option BandProfile :=
  place.map fun b => { b with current := b.loaded }

/-- A profile relearned (R70). -/
def Profile.relearn (p : Profile) : Profile :=
  { p with bands := p.bands.map relearnBand, blindStreak := 0 }

/-- A mould record with the profile of a watch point relearned (R70). -/
def MouldRecord.relearn (m : MouldRecord) (wp : Fin 24) : MouldRecord :=
  { m with profiles := m.profiles.map fun p => if p.watchPoint = wp then p.relearn else p }

/-- Has the mould record a profile for the watch point? -/
def MouldRecord.watches (m : MouldRecord) (wp : Fin 24) : Bool :=
  m.profiles.any fun p => p.watchPoint == wp

namespace State

/-- The relearn of a Release Suspect (R70, R106): the state, and whether a profile was written. -/
def relearn (s : State) (slot : Fin 16) (wp : Fin 24) : State × Bool :=
  match s.mould slot with
  | some m => if m.watches wp then (s.setMould slot (m.relearn wp), true) else (s, false)
  | none => (s, false)

/-- The named entry leaves the list (R106). -/
def releaseEntry (s : State) (slot : Fin 16) (wp : Fin 24) : State :=
  s.setSuspects (removeEntry s.suspects slot wp)

end State

/-- A release that passed check 1 (R105, R106). -/
def releaseChecked (s : State) (slot : Fin 16) (wp : Fin 24) (relearn : Bool) : State × Answer :=
  match entryFor s.suspects slot wp with
  | none => (s, .notFound)
  | some e =>
    if relearn && s.carried slot then (s, .inUse slot)
    else
      let t := s.releaseEntry slot wp
      let x := if relearn then t.relearn slot wp else (t, false)
      (x.1, .ok (.released e t.suspects.length x.2))

/-- R105 and R106. -/
def actReleaseSuspect : Act := fun r s =>
  if h : byteAt r.body 0 < 16 ∧ byteAt r.body 1 < 24 ∧ byteAt r.body 2 ≤ 1 then
    releaseChecked s ⟨byteAt r.body 0, h.1⟩ ⟨byteAt r.body 1, h.2.1⟩ (byteAt r.body 2 == 1)
  else (s, .badArgument)

/-- R89. -/
def actReadCycle : Act := fun r s =>
  let start := byteAt r.body 0
  if 24 ≤ start then (s, .badArgument)
  else
    match s.verdict.summary with
    | none => (s, .notFound)
    | some x =>
      let es := fromPoint SummaryEntry.watchPoint start x.entries
      (s, .ok (.cycle x.cycle x.slot x.serial x.entries.length (es.take 6) (nextPoint SummaryEntry.watchPoint 6 es)))

/-! ### Conditions -/

/-- The set of condition codes at the start of a body (R192). -/
def setIn (body : List Byte) : CondSet := BitVec.ofNat 15 (halfAt body 0)

/-- R117: each named flag whose standing cause does not hold is cleared. A set with its top bit at 1 names a code outside
1-15 (R192). -/
def actClearConditions : Act := fun r s =>
  if 128 ≤ byteAt r.body 0 then (s, .badArgument)
  else
    let named := setIn r.body
    let kept := named &&& s.cond.flags &&& s.standing
    let flags := s.cond.flags &&& ~~~(named &&& ~~~s.standing)
    (s.setCond { s.cond with flags := flags }, .ok (.cleared kept flags))

/-- R124. -/
def actSetEnables : Act := fun r s =>
  if 128 ≤ byteAt r.body 0 then (s, .badArgument)
  else (s.setCond { s.cond with enables := setIn r.body }, .ok (.enables (setIn r.body) s.cond.flags))

/-! ### The trace buffer -/

/-- R187. -/
def actTraceSelect : Act := fun r s =>
  let i := byteAt r.body 0
  if 32 ≤ i then (s, .badArgument)
  else if s.tables.channels.length ≤ i then (s, .notFound)
  else (s.setTrace (.running i []), .ok .empty)

/-- R188. -/
def actTraceFreeze : Act := fun _ s =>
  match s.trace with
  | .running ch ring => (s.setTrace (.frozen ch ring), .ok .empty)
  | .frozen _ _ => (s, .ok .empty)
  | .off => (s, .badState s.engine.operating)

/-- R188. -/
def actTraceUnfreeze : Act := fun _ s =>
  match s.trace with
  | .running ch _ => (s.setTrace (.running ch []), .ok .empty)
  | .frozen ch _ => (s.setTrace (.running ch []), .ok .empty)
  | .off => (s, .badState s.engine.operating)

/-- R189. -/
def actTraceRead : Act := fun r s =>
  let i := byteAt r.body 0
  if 64 ≤ i then (s, .badArgument)
  else
    match s.trace with
    | .frozen ch ring =>
      match ring[i]? with
      | some c => (s, .ok (.traced ring.length ch i c))
      | none => (s, .notFound)
    | .running _ _ => (s, .badState s.engine.operating)
    | .off => (s, .badState s.engine.operating)

/-- R187. -/
def actTraceOff : Act := fun _ s => (s.traceStops, .ok .empty)

/-! ### The commands -/

/-- READ_MOULD (R69). -/
def execReadMould (s : State) : Host.Outcome State Fault Refusal := serve .readMould .noLoad actReadMould s

/-- CONFIRM_MOULD (R50, R51). -/
def execConfirmMould (s : State) : Host.Outcome State Fault Refusal := serve .confirmMould .noLoad actConfirmMould s

/-- READ_SUSPECTS (R110). -/
def execReadSuspects (s : State) : Host.Outcome State Fault Refusal := serve .readSuspects .noLoad actReadSuspects s

/-- RELEASE_SUSPECT (R105, R106). -/
def execReleaseSuspect (s : State) : Host.Outcome State Fault Refusal :=
  serve .releaseSuspect .noLoad actReleaseSuspect s

/-- READ_CYCLE (R89). -/
def execReadCycle (s : State) : Host.Outcome State Fault Refusal := serve .readCycle .noLoad actReadCycle s

/-- CLEAR_CONDITIONS (R117). -/
def execClearConditions (s : State) : Host.Outcome State Fault Refusal :=
  serve .clearConditions .noLoad actClearConditions s

/-- SET_ENABLES (R124). -/
def execSetEnables (s : State) : Host.Outcome State Fault Refusal := serve .setEnables .noLoad actSetEnables s

/-- TRACE_SELECT (R187). -/
def execTraceSelect (s : State) : Host.Outcome State Fault Refusal := serve .traceSelect .noLoad actTraceSelect s

/-- TRACE_FREEZE (R188). -/
def execTraceFreeze (s : State) : Host.Outcome State Fault Refusal := serve .traceFreeze .noLoad actTraceFreeze s

/-- TRACE_UNFREEZE (R188). -/
def execTraceUnfreeze (s : State) : Host.Outcome State Fault Refusal := serve .traceUnfreeze .noLoad actTraceUnfreeze s

/-- TRACE_READ (R189). -/
def execTraceRead (s : State) : Host.Outcome State Fault Refusal := serve .traceRead .noLoad actTraceRead s

/-- TRACE_OFF (R187). -/
def execTraceOff (s : State) : Host.Outcome State Fault Refusal := serve .traceOff .noLoad actTraceOff s

end Sys2Proof.Machine
end

