-- ==== Sys2Proof/Machine/Feature.lean ====
section
/-! DEFINITION. The feature engine: attribution, the sequence check, and the three parts of an accumulator (chapter 2). -/

namespace Sys2Proof.Machine

/-! ### The sequence check (R30) -/

/-- The blocks missing before an accepted block; none for a duplicate or a backward block, which is ignored (R30). -/
def missingBefore (last : Option Byte) (sequence : Byte) : Option Nat :=
  match last with
  | none => some 0
  | some l =>
    let d := (sequence - l).toNat
    if 1 ≤ d ∧ d ≤ 128 then some (d - 1) else none

/-! ### The parts of an accumulator -/

/-- An accepted VIBE block (R30, R32): it is heard by the four filters of the band set in force. A slot that is absent, which
no run reaches, has no filters (log 18). -/
def VibePart.accept (v : VibePart) (bands : Option BandSet) (samples : List Sample) (sequence : Byte) (missing : Nat) :
    VibePart where
  counted := v.counted + 1
  missing := v.missing + missing
  last := some sequence
  heard :=
    match bands with
    | some b => v.heard ++ [⟨b, samples⟩]
    | none => v.heard

/-- A VIBE block reaches its part (R30, R32). -/
def VibePart.block (v : VibePart) (bands : Option BandSet) (c : Copy) : VibePart :=
  match missingBefore v.last c.sequence with
  | some missing => v.accept bands c.samples c.sequence missing
  | none => v

/-- Is a block quiet (R34)? -/
def quiet (threshold : Nat) (samples : List Sample) : Bool := broadbandLevel samples < threshold

/-- The ring state and count after an accepted RING block (R35). -/
def RingPart.measure (r : RingPart) (isQuiet : Bool) (missing : Nat) : RingState × Nat :=
  match r.state with
  | .waiting => if isQuiet then (.ended, 0) else (.counting, 1)
  | .counting =>
    if missing ≠ 0 then (.gap, r.count)
    else if isQuiet then (.ended, r.count)
    else if r.count + 1 < 255 then (.counting, r.count + 1)
    else (.ended, 255)
  | .ended => (.ended, r.count)
  | .gap => (.gap, r.count)

/-- A RING block reaches its part (R30, R35). -/
def RingPart.block (r : RingPart) (threshold : Nat) (c : Copy) : RingPart :=
  match missingBefore r.last c.sequence with
  | some missing =>
    let m := r.measure (quiet threshold c.samples) missing
    ⟨m.1, m.2, some c.sequence⟩
  | none => r

/-- One sample of the strip scan (R37): hits and carry. -/
def scanSample (threshold span : Nat) (acc : Nat × Nat) (x : Sample) : Nat × Nat :=
  if 0 < acc.2 then (acc.1, acc.2 - 1)
  else if threshold < x.toInt.natAbs then (min 255 (acc.1 + 1), span - 1)
  else acc

/-- The strip scan of a block, sample by sample (R37). -/
def scan (threshold span : Nat) (samples : List Sample) (hits carry : Nat) : Nat × Nat :=
  samples.foldl (scanSample threshold span) (hits, carry)

/-- A STRIP block reaches its part (R30, R37, R38). -/
def StripPart.block (x : StripPart) (threshold span : Nat) (c : Copy) : StripPart :=
  match missingBefore x.last c.sequence with
  | some missing =>
    let m := scan threshold span c.samples x.hits (x.carry - 32 * missing)
    ⟨m.1, m.2, some c.sequence⟩
  | none => x

/-- A block is applied to the part of its phase (R28). -/
def Accumulator.block (x : Accumulator) (e : ChannelEntry) (bands : Option BandSet) (c : Copy) : Accumulator :=
  match c.phase with
  | .vibe => { x with vibe := x.vibe.block bands c }
  | .ring => { x with ring := x.ring.block e.decayThreshold c }
  | .strip => { x with strip := x.strip.block e.hitThreshold e.deadSpan c }

/-- Does the accumulator's mapping hold the entry index (R28)? -/
def Accumulator.fedBy (x : Accumulator) (entry : Nat) : Bool :=
  match x.mapping with
  | some m => m.entry == entry
  | none => false

/-! ### Attribution (R28) -/

/-- Has a record entered the phase of a tag? -/
def PhasesEntered.has (e : PhasesEntered) : ExamPhase → Bool
  | .vibe => e.vibe
  | .ring => e.ring
  | .strip => e.strip

/-- Does a record meet the three conditions of attribution (R28)? A record in GRACE has entered every phase (R8). -/
def CycleRecord.takes (r : CycleRecord) (c : Copy) : Bool :=
  (match r.number with
   | some n => n.setWidth 8 == c.cycleTag
   | none => false) &&
  (match r.state with
   | .opened _ => r.entered.has c.phase
   | .grace => true
   | .free => false
   | .wait => false
   | .judging => false)

/-- The record a block is attributed to; none when no record, or each of the two, meets the conditions (R28). -/
def Tracker.attribute (t : Tracker) (c : Copy) : Option RecId :=
  match t.a.takes c, t.b.takes c with
  | true, false => some .a
  | false, true => some .b
  | _, _ => none

/-- A RING block of a record that is back in VIBE (R28): it belongs to a ring-out that was discarded. -/
def staleRing (r : CycleRecord) (c : Copy) : Bool :=
  c.phase == .ring && r.state == .opened .vibe

/-- A record after a block attributed to it (R28). An unmoulded record holds no accumulator and so takes nothing. -/
def CycleRecord.block (r : CycleRecord) (e : ChannelEntry) (bands : Option BandSet) (c : Copy) : CycleRecord :=
  if staleRing r c then r
  else { r with accs := r.accs.map fun x => if x.fedBy c.entry then x.block e bands c else x }

/-! ### The trace ring (R186) -/

/-- A ring with a block appended; beyond 64 the oldest is dropped (R186). -/
def ringPush (ring : List Copy) (c : Copy) : List Copy :=
  if ring.length < Config.ringCapacity then ring ++ [c] else ring.drop 1 ++ [c]

/-- A block is offered to the trace buffer (R186). -/
def Trace.offer (t : Trace) (c : Copy) : Trace :=
  match t with
  | .running ch ring => if c.entry = ch then .running ch (ringPush ring c) else t
  | .frozen _ _ => t
  | .off => t

namespace State

/-- The block is attributed and applied (R28). Entry and band set are read as the tables stand (R21, R23). -/
def applyBlock (s : State) (c : Copy) : State :=
  match s.tracker.attribute c, s.tables.channels[c.entry]? with
  | some i, some e => s.setRec i ((s.tracker.get i).block e s.tables.bandSets[e.bandSet] c)
  | _, _ => s

/-- The head copy leaves the queue, is offered to the trace buffer, attributed and applied (R26). -/
def examine (s : State) (c : Copy) (rest : List Copy) : State :=
  ((s.setExam rest).setTrace (s.trace.offer c)).applyBlock c

end State

/-- EXAMINE_BLOCK (R26). -/
def execExamineBlock (s : State) : Host.Outcome State Fault Refusal :=
  match s.exam with
  | c :: rest => stepped (fun t => t.examine c rest) s
  | [] => noEvent s

end Sys2Proof.Machine
end

