-- ==== Sys2Proof/Machine/Router.lean ====
section
/-! DEFINITION. A good frame: the pod monitor, the station address checks, and the frame router (R138, R145, chapter 9). -/

namespace Sys2Proof.Machine

namespace State

/-- A frame speaks for a pod (R145): in WATCHING a present pod becomes LIVE, its timer started afresh, or suspended while port
U sends HOLD (R148). -/
def speaksFor (s : State) (p : PodId) : State :=
  if s.watching && s.podPresent p then
    s.mapPods fun q x =>
      if q = p then ⟨.live, match s.portU.txFlow with | .go => s.freshTimer p | .hold => .suspended⟩ else x
  else s

/-- The pod monitor hears a good frame of port U (R135, R145). -/
def podHears (s : State) (f : Frame) : State :=
  match podOf f.source with
  | some p => s.speaksFor p
  | none => s

/-- Is a good frame misaddressed, or from a station that claims the part's own address (R138)? -/
def misaddressed (s : State) (f : Frame) : Bool :=
  !isStation f.source || !isStation f.dest || f.source == addrAll || f.source == s.station

/-- Is a frame's source or destination illegal for port U (R149)? -/
def illegalOnU (s : State) (f : Frame) : Bool :=
  isPodAddr f.dest || f.dest == s.station || f.source == addrController || f.kind == kindMark

/-- Is a frame's source or destination illegal for port D (R149)? -/
def illegalOnD (f : Frame) : Bool :=
  f.dest == addrController || isPodAddr f.source

/-- An examination copy is queued, or refused with QUEUE OVERRUN (R24, R25). -/
def offerCopy (s : State) (f : Frame) : State :=
  match s.watching, copyOf s.tables.channels f with
  | true, some c =>
    if s.exam.length < Config.examCapacity then s.setExam (s.exam ++ [c]) else s.raise .queueOverrun
  | _, _ => s

/-- Does the forward policy offer a Sample frame to the forward queue (R153)? In HALTED it does not apply. -/
def policyOffers (s : State) (f : Frame) : Bool :=
  match s.watching, s.tables.setup with
  | true, some su =>
    match su.policy with
    | .all => true
    | .none => false
    | .tagged =>
      match matchEntry s.tables.channels f with
      | some i =>
        match s.tables.channels[i]? with
        | some e => e.forward
        | none => true
      | none => true
  | _, _ => true

/-- A Sample frame that passed R149: its examination copy, and the forward policy (R150, R153). -/
def routeSample (s : State) (f : Frame) : State :=
  let t := s.offerCopy f
  if t.policyOffers f then t.offerForward f.bytes else t

/-- A good frame of port U that is bound downstream (R150, R152). A frame of the Sample kind is a Sample frame here whatever its
source: one from another monitor falls under the length check and the forward policy too (DESIGN CHOICE, log 24). -/
def routeDown (s : State) (f : Frame) : State :=
  if f.kind = kindSample then
    if f.payload.length = sampleLength then s.routeSample f
    else (s.raise .linkFault).offerForward f.bytes
  else s.offerForward f.bytes

/-- The tracker is shown a Mark; it takes one of the seven kinds in WATCHING (R1, R151). -/
def showMark (s : State) (f : Frame) : State :=
  match s.watching, markKindOf f.payload with
  | true, some kind => s.takeMark kind (markCycleOf f.payload)
  | _, _ => s

/-- A Mark to station 31 (R151, R152). -/
def routeMark (s : State) (f : Frame) : State :=
  if f.payload.length = markLength then (s.showMark f).offerUpward f.bytes
  else (s.raise .linkFault).offerUpward f.bytes

/-- A request is offered to the management inbox (R163). -/
def offerInbox (s : State) (r : Request) : State :=
  if s.engine.inbox.length < Config.inboxCapacity then
    s.setEngine { s.engine with inbox := s.engine.inbox ++ [r] }
  else s.raise .queueOverrun

/-- A frame for the part itself (R151, R152). -/
def routeOwn (s : State) (f : Frame) : State :=
  if f.kind = kindRequest ∧ 2 ≤ f.payload.length then s.offerInbox (requestOf f) else s.raise .linkFault

/-- A good frame of port D that passed R149 (R151). -/
def routeUp (s : State) (f : Frame) : State :=
  if f.dest = s.station then s.routeOwn f
  else if f.dest = addrAll ∧ f.kind = kindMark then s.routeMark f
  else s.offerUpward f.bytes

/-- A good frame of port U after the pod monitor (R138, R149, R150). -/
def routeU (s : State) (f : Frame) : State :=
  if s.misaddressed f || s.illegalOnU f then s.raise .linkFault else s.routeDown f

/-- A good frame of port D (R138, R149, R151). -/
def routeD (s : State) (f : Frame) : State :=
  if s.misaddressed f || illegalOnD f then s.raise .linkFault else s.routeUp f

/-- A good frame is handed on (R135). -/
def handOn (s : State) (p : Port) (f : Frame) : State :=
  match p with
  | .u => (s.podHears f).routeU f
  | .d => s.routeD f

end State

end Sys2Proof.Machine
end

