-- ==== Sys2Proof/Machine/Links.lean ====
section
/-! DEFINITION. The link ports: symbols, receive checks, signal, flow control, the ends of sent frames, and the timers of
chapter 8. -/

namespace Sys2Proof.Machine

namespace State

/-- A port's framing state takes a value. -/
def setFraming (s : State) (p : Port) (x : Framing) : State :=
  s.setPort p { s.port p with framing := x }

/-- A valid symbol arrives: the signal is PRESENT, and its timer restarts (R137). -/
def symbolArrives (s : State) (p : Port) : State :=
  s.setPort p { s.port p with signal := .present, signalTimer := some Config.signalTimeout }

/-- START (R132, R135). -/
def receiveStart (s : State) (p : Port) : State :=
  let t := match (s.port p).framing with
    | .between => s
    | .inFrame _ => s.raise .linkFault
    | .discarding => s
  t.setFraming p (.inFrame [])

/-- A data symbol (R132, R135): the 247th byte of a frame discards it and begins a discarding stretch. -/
def receiveData (s : State) (p : Port) (b : Byte) : State :=
  match (s.port p).framing with
  | .between => s.raise .linkFault
  | .inFrame bytes =>
    if bytes.length < Config.maxFrame then s.setFraming p (.inFrame (bytes ++ [b]))
    else (s.raise .linkFault).setFraming p .discarding
  | .discarding => s

/-- END (R132, R135). -/
def receiveEnd (s : State) (p : Port) : State :=
  match (s.port p).framing with
  | .between => s.raise .linkFault
  | .inFrame bytes =>
    let t := s.setFraming p .between
    if goodFrame bytes then t.handOn p (frameOf bytes) else t.raise .linkFault
  | .discarding => s.setFraming p .between

/-- The frame in progress, if there is one, is discarded with LINK FAULT; the framing state is BETWEEN (R132, R135). -/
def breakFrame (s : State) (p : Port) : State :=
  let t := match (s.port p).framing with
    | .between => s
    | .inFrame _ => s.raise .linkFault
    | .discarding => s
  t.setFraming p .between

/-- The port's received flow state becomes held (R142); on port D a held stretch begins, timed if the setup record is present
(R143). -/
def hold (s : State) (p : Port) : State :=
  if (s.port p).rxFlow = .held then s
  else
    let t := s.setPort p { s.port p with rxFlow := .held }
    match p with
    | .u => t
    | .d => t.setStall ⟨s.tables.setup.map Setup.stallLimit, false⟩

/-- The port's received flow state becomes released (R142): on port D the held stretch ends (R143), and the transmitter goes
on. -/
def release (s : State) (p : Port) : State :=
  if (s.port p).rxFlow = .released then s
  else
    let t := s.setPort p { s.port p with rxFlow := .released }
    match p with
    | .u => t.resumeTx .u
    | .d => (t.setStall ⟨none, false⟩).resumeTx .d

/-- The port enters signal lost (R137). -/
def loseSignal (s : State) (p : Port) : State :=
  let t := s.setPort p { s.port p with signal := .lost, signalTimer := none, framing := .between }
  (t.release p).raise .linkFault

/-- A transmitter sends its frame to its END, and goes on (R133, R155, R158). -/
def endFrame (s : State) (p : Port) : State :=
  (s.setPort p (s.port p).finish).resumeTx p

/-- The stall timer expires (R143). -/
def stallExpires (s : State) : State :=
  (s.setStall ⟨none, true⟩).raise .downstreamStall

/-- A pod becomes SILENT (R146). -/
def silence (s : State) (p : PodId) : State :=
  s.mapPods fun q x => if q = p then ⟨.silent, .stopped⟩ else x

/-- A pod joins the silenced pods of the record that is OPEN in VIBE, RING or STRIP (R147). -/
def joinSilenced (s : State) (p : PodId) : State :=
  match s.tracker.openRec with
  | none => s
  | some i =>
    let r := s.tracker.get i
    match r.state with
    | .opened phase =>
      if phase.counts then s.setRec i { r with silenced := r.silenced ||| BitVec.twoPow 8 p.val } else s
    | _ => s

/-- A present pod's silence timer expires in WATCHING (R146, R147). -/
def silenceExpires (s : State) (p : PodId) : State :=
  ((s.silence p).joinSilenced p).raise .podSilent

/-- Is the pod's silence timer running, in WATCHING (R146)? -/
def silenceTimed (s : State) (p : PodId) : Bool :=
  s.watching && s.podPresent p &&
    match s.pods[p].timer with
    | .running _ => true
    | .stopped => false
    | .suspended => false

end State

/-! ### The commands -/

/-- FRAME_START (R132). -/
def execFrameStart (p : Port) (s : State) : Host.Outcome State Fault Refusal :=
  stepped (fun t => (t.symbolArrives p).receiveStart p) s

/-- EARLY_START (R132): the START of a frame inside a frame. -/
def execEarlyStart (p : Port) (s : State) : Host.Outcome State Fault Refusal :=
  stepped (fun t => (t.symbolArrives p).receiveStart p) s

/-- FRAME_RECEIVED (R135): the data symbols, then END. -/
def execFrameReceived (p : Port) (data : List Byte) (s : State) : Host.Outcome State Fault Refusal :=
  stepped (fun t => (data.foldl (fun u b => u.receiveData p b) (t.symbolArrives p)).receiveEnd p) s

/-- FRAME_OVERLENGTH (R135): the data symbol that is the 247th byte of a frame. Between frames that data symbol is stray. -/
def execFrameOverlength (p : Port) (s : State) : Host.Outcome State Fault Refusal :=
  stepped
    (fun t =>
      let u := t.symbolArrives p
      match (u.port p).framing with
      | .between => u.raise .linkFault
      | .inFrame _ => (u.raise .linkFault).setFraming p .discarding
      | .discarding => u) s

/-- STRAY_SYMBOL (R132): a data symbol or END. -/
def execStraySymbol (p : Port) (x : StraySymbol) (s : State) : Host.Outcome State Fault Refusal :=
  stepped
    (fun t =>
      match x with
      | .data b => (t.symbolArrives p).receiveData p b
      | .frameEnd => (t.symbolArrives p).receiveEnd p) s

/-- CODE_VIOLATION (R132): no valid symbol, so the signal timer does not restart (R137). -/
def execCodeViolation (p : Port) (s : State) : Host.Outcome State Fault Refusal :=
  stepped (fun t => t.breakFrame p) s

/-- HOLD_RECEIVED (R142, R143). -/
def execHoldReceived (p : Port) (s : State) : Host.Outcome State Fault Refusal :=
  stepped (fun t => (t.symbolArrives p).hold p) s

/-- GO_RECEIVED (R142, R143). -/
def execGoReceived (p : Port) (s : State) : Host.Outcome State Fault Refusal :=
  stepped (fun t => (t.symbolArrives p).release p) s

/-- IDLE_RECEIVED (R132, R142): the frame in progress is discarded, then the IDLE is taken as flow control. -/
def execIdleReceived (p : Port) (s : State) : Host.Outcome State Fault Refusal :=
  stepped (fun t => ((t.symbolArrives p).breakFrame p).release p) s

/-- SIGNAL_LOST (R137): the signal timer of a port with signal expires. -/
def execSignalLost (p : Port) (s : State) : Host.Outcome State Fault Refusal :=
  if (s.port p).signalTimer.isSome then stepped (fun t => t.loseSignal p) s else noEvent s

/-- PORT_D_FRAME_END (R158). -/
def execPortDFrameEnd (s : State) : Host.Outcome State Fault Refusal :=
  if s.portD.tx.isSome then stepped (fun t => t.endFrame .d) s else noEvent s

/-- PORT_U_FRAME_END (R155). -/
def execPortUFrameEnd (s : State) : Host.Outcome State Fault Refusal :=
  if s.portU.tx.isSome then stepped (fun t => t.endFrame .u) s else noEvent s

/-- STALL_TIMER_EXPIRY (R143). -/
def execStallTimerExpiry (s : State) : Host.Outcome State Fault Refusal :=
  if s.stall.timer.isSome then stepped (fun t => t.stallExpires) s else noEvent s

/-- SILENCE_TIMER_EXPIRY (R146, R147). -/
def execSilenceTimerExpiry (p : PodId) (s : State) : Host.Outcome State Fault Refusal :=
  if s.silenceTimed p then stepped (fun t => t.silenceExpires p) s else noEvent s

end Sys2Proof.Machine
end

