-- ==== Sys2Proof/Machine/Loads.lean ====
section
/-! DEFINITION. The requests that load tables and moulds, in one frame or in several (chapters 4 and 10). -/

namespace Sys2Proof.Machine

namespace State

/-- The setup record takes a content. -/
def setSetup (s : State) (x : Setup) : State := s.setTables { s.tables with setup := some x }

/-- The channel table is replaced, and the trace buffer goes OFF (R20, R180). -/
def replaceChannels (s : State) (xs : List ChannelEntry) : State :=
  (s.setTables { s.tables with channels := xs }).traceStops

/-- Every named slot of the band set table is replaced (R22, R176). -/
def replaceBandSets (s : State) (pairs : List BandPair) : State :=
  s.setTables
    { s.tables with
      bandSets :=
        pairs.foldl (fun v x => if h : x.slot < 8 then v.set x.slot (some x.bands) h else v) s.tables.bandSets }

/-- The load timer's value (R182). -/
def loadTime (s : State) : Nat := (s.tables.setup.map Setup.loadTimeout).getD Config.defaultLoadTimeout

/-- A mould load commits (R47, R66, R67): the slot is replaced whole, its suspect entries are removed, and an installed mould
becomes UNCONFIRMED. -/
def commitMould (s : State) (slot : Fin 16) (m : MouldRecord) : State :=
  let t := (s.setMould slot m).setSuspects (s.suspects.filter fun e => e.slot != slot)
  if s.installed = some slot then t.setMouldState .unconfirmed else t

end State

/-- The commit checks of an open load whose remaining count is 0, and the commit (R65, R180). The load ends either way. -/
def commitLoad (l : OpenLoad) (s : State) : State × Answer :=
  let t := s.setLoad none
  match l.staging with
  | .channels records =>
    match channelsCommit records [] 1 with
    | .error (reason, item) => (t, .refused reason item)
    | .ok table => (t.replaceChannels table, .done table.length)
  | .mould slot header profiles =>
    match mouldCommit header profiles with
    | .error (reason, item) => (t, .refused reason item)
    | .ok m =>
      if s.inUse slot then (t, .inUse slot)
      else (t.commitMould slot m, .done (s.suspects.countP fun e => e.slot == slot))

/-- A frame of a load has been accepted: the load is committed at a remaining count of 0, and goes on otherwise (R177, R178,
R179). -/
def proceedLoad (l : OpenLoad) (s : State) : State × Answer :=
  if l.remaining = 0 then commitLoad l s else (s.setLoad (some l), .more l.remaining)

/-- R175. -/
def actLoadSetup : Act := fun r s =>
  match setupFault r.body with
  | some item => (s, .refused .fieldRange item)
  | none => (s.setSetup (setupOf r.body), .ok .empty)

/-- R176. -/
def actLoadBandSets : Act := fun r s =>
  if inRange 1 8 (byteAt r.body 0) then
    match pairsFault (pairsOf r.body) [] 1 with
    | some (reason, item) => (s, .refused reason item)
    | none => (s.replaceBandSets (pairsOf r.body), .ok .empty)
  else (s, .badArgument)

/-- R178. -/
def actLoadChannels : Act := fun r s =>
  let total := byteAt r.body 0
  let given := byteAt r.body 1
  if 32 < total ∨ total < given ∨ 4 < given then (s, .badArgument)
  else if total = 0 then (s.replaceChannels [], .done 0)
  else
    proceedLoad ⟨.channels (rawChannelsAt r.body 2 given), total, total - given, s.loadTime⟩ s

/-- R64, checks 2 to 4. -/
def actLoadMould : Act := fun r s =>
  let code := byteAt r.body 0
  let header := rawHeaderAt r.body 1
  let given := byteAt r.body 14
  if h : code < 16 then
    if !inRange 1 24 header.w || header.w < given || 3 < given then (s, .badArgument)
    else if s.inUse ⟨code, h⟩ then (s, .inUse ⟨code, h⟩)
    else
      proceedLoad ⟨.mould ⟨code, h⟩ header (rawProfilesAt r.body 15 given), header.w, header.w - given, s.loadTime⟩ s
  else (s, .badArgument)

/-- The staging area with the records of a Load Continue appended (R177, R179). -/
def Staging.extend (x : Staging) (body : List Byte) (given : Nat) : Staging :=
  match x with
  | .channels records => .channels (records ++ rawChannelsAt body 1 given)
  | .mould slot header profiles => .mould slot header (profiles ++ rawProfilesAt body 1 given)

/-- The most records a Load Continue may carry (R179). -/
def continueLimit : LoadKind → Nat
  | .channels => 4
  | .mould => 3

/-- R179. -/
def actLoadContinue : Act := fun r s =>
  match s.engine.load with
  | none => (s, .noLoad)
  | some l =>
    let given := byteAt r.body 0
    if given = 0 ∨ continueLimit l.kind < given ∨ l.remaining < given then (s, .badArgument)
    else proceedLoad ⟨l.staging.extend r.body given, l.declared, l.remaining - given, s.loadTime⟩ s

/-- R181. -/
def actLoadAbort : Act := fun _ s => (s.setLoad none, .ok .empty)

/-! ### The commands -/

/-- LOAD_SETUP (R175). -/
def execLoadSetup (s : State) : Host.Outcome State Fault Refusal := serve .loadSetup .haltedOnly actLoadSetup s

/-- LOAD_BAND_SETS (R176). -/
def execLoadBandSets (s : State) : Host.Outcome State Fault Refusal :=
  serve .loadBandSets .haltedOnly actLoadBandSets s

/-- LOAD_CHANNELS (R178). -/
def execLoadChannels (s : State) : Host.Outcome State Fault Refusal :=
  serve .loadChannels .haltedOnly actLoadChannels s

/-- LOAD_MOULD (R64). -/
def execLoadMould (s : State) : Host.Outcome State Fault Refusal := serve .loadMould .noLoad actLoadMould s

/-- LOAD_CONTINUE (R179). -/
def execLoadContinue (s : State) : Host.Outcome State Fault Refusal := serve .loadContinue .withLoad actLoadContinue s

/-- LOAD_ABORT (R181). -/
def execLoadAbort (s : State) : Host.Outcome State Fault Refusal := serve .loadAbort .withLoad actLoadAbort s

/-- LOAD_TIMER_EXPIRY (R182). -/
def execLoadTimerExpiry (s : State) : Host.Outcome State Fault Refusal :=
  if s.engine.load.isSome then stepped (fun t => (t.setLoad none).raise .loadTimeout) s else noEvent s

end Sys2Proof.Machine
end

