-- ==== Sys2Proof/Machine/Dispatch.lean ====
section
/-! DEFINITION. One arm for each command. -/

namespace Sys2Proof.Machine

def exec (i : Instr) (s : State) : Host.Outcome State Fault Refusal :=
  match i with
  | .powerOnReset pins => Sys2Proof.Machine.execPowerOnReset pins s
  | .lineReset pins => Sys2Proof.Machine.execLineReset pins s
  | .frameReceived p data => Sys2Proof.Machine.execFrameReceived p data s
  | .frameOverlength p => Sys2Proof.Machine.execFrameOverlength p s
  | .earlyStart p => Sys2Proof.Machine.execEarlyStart p s
  | .straySymbol p x => Sys2Proof.Machine.execStraySymbol p x s
  | .codeViolation p => Sys2Proof.Machine.execCodeViolation p s
  | .holdReceived p => Sys2Proof.Machine.execHoldReceived p s
  | .goReceived p => Sys2Proof.Machine.execGoReceived p s
  | .idleReceived p => Sys2Proof.Machine.execIdleReceived p s
  | .signalLost p => Sys2Proof.Machine.execSignalLost p s
  | .portDFrameEnd => Sys2Proof.Machine.execPortDFrameEnd s
  | .portUFrameEnd => Sys2Proof.Machine.execPortUFrameEnd s
  | .stallTimerExpiry => Sys2Proof.Machine.execStallTimerExpiry s
  | .silenceTimerExpiry pod => Sys2Proof.Machine.execSilenceTimerExpiry pod s
  | .cycleTimerExpiry r => Sys2Proof.Machine.execCycleTimerExpiry r s
  | .graceExpiry r => Sys2Proof.Machine.execGraceExpiry r s
  | .judgementCompletion => Sys2Proof.Machine.execJudgementCompletion s
  | .examineBlock => Sys2Proof.Machine.execExamineBlock s
  | .rawValueChange x => Sys2Proof.Machine.execRawValueChange x s
  | .debounceTimerExpiry x => Sys2Proof.Machine.execDebounceTimerExpiry x s
  | .loadTimerExpiry => Sys2Proof.Machine.execLoadTimerExpiry s
  | .identify => Sys2Proof.Machine.execIdentify s
  | .readStatus => Sys2Proof.Machine.execReadStatus s
  | .restart => Sys2Proof.Machine.execRestart s
  | .halt => Sys2Proof.Machine.execHalt s
  | .start => Sys2Proof.Machine.execStart s
  | .loadSetup => Sys2Proof.Machine.execLoadSetup s
  | .loadBandSets => Sys2Proof.Machine.execLoadBandSets s
  | .loadChannels => Sys2Proof.Machine.execLoadChannels s
  | .loadMould => Sys2Proof.Machine.execLoadMould s
  | .loadContinue => Sys2Proof.Machine.execLoadContinue s
  | .loadAbort => Sys2Proof.Machine.execLoadAbort s
  | .readMould => Sys2Proof.Machine.execReadMould s
  | .confirmMould => Sys2Proof.Machine.execConfirmMould s
  | .readSuspects => Sys2Proof.Machine.execReadSuspects s
  | .releaseSuspect => Sys2Proof.Machine.execReleaseSuspect s
  | .readCycle => Sys2Proof.Machine.execReadCycle s
  | .clearConditions => Sys2Proof.Machine.execClearConditions s
  | .setEnables => Sys2Proof.Machine.execSetEnables s
  | .traceSelect => Sys2Proof.Machine.execTraceSelect s
  | .traceFreeze => Sys2Proof.Machine.execTraceFreeze s
  | .traceUnfreeze => Sys2Proof.Machine.execTraceUnfreeze s
  | .traceRead => Sys2Proof.Machine.execTraceRead s
  | .traceOff => Sys2Proof.Machine.execTraceOff s
  | .unknownRequest => Sys2Proof.Machine.execUnknownRequest s
  | .frameStart p => Sys2Proof.Machine.execFrameStart p s

end Sys2Proof.Machine
end

