-- ==== Sys2Proof/Safety.lean ====
section
/-! DEFINITION. What the statements are made of: the laws that every step keeps, when a request is served, how an own frame is
placed, and the filters and levels of R23 and R33 in the real numbers. -/

namespace Sys2Proof.Machine

/-! ### The laws -/

/-- No transmitter stands idle and released while a frame waits for it (R155, R158). -/
def NoIdleWait (s : State) : Prop :=
  (s.portD.tx = none → s.portD.rxFlow = .released → s.paths.forward = [] ∧ s.paths.own = []) ∧
  (s.portU.tx = none → s.portU.rxFlow = .released → s.paths.upward = [])

/-- STOP and the signal lines show the flags, the classes and the mould state (R120 to R123). -/
def LinesLaw (s : State) : Prop := s.lines = s.evalLines

/-- A clear flag with a standing cause that holds does not occur (R116). -/
def CauseLaw (s : State) : Prop :=
  ∀ c : Condition, s.causeHolds c = true → c.isIn s.cond.flags = true

/-- The queues keep within their sizes (R24, R92, R154, R155, R157, R158, R163). -/
def QueueLaw (s : State) : Prop :=
  s.paths.forward.length ≤ 8 ∧ s.paths.upward.length ≤ 4 ∧ s.paths.own.length ≤ 12 ∧ s.nonReplies ≤ 10 ∧
  s.paths.passOver ≤ 3 ∧ (s.paths.own = [] → s.paths.passOver = 0) ∧
  s.engine.inbox.length ≤ 4 ∧ s.exam.length ≤ 16 ∧ s.suspects.length ≤ 32

/-- The sent flow states stand as the occupancies ask (R141). -/
def FlowLaw (s : State) : Prop :=
  (6 ≤ s.paths.forward.length → s.portU.txFlow = .hold) ∧ (s.paths.forward.length ≤ 2 → s.portU.txFlow = .go) ∧
  (3 ≤ s.paths.upward.length → s.portD.txFlow = .hold) ∧ (s.paths.upward.length ≤ 1 → s.portD.txFlow = .go)

/-- The phases that a record in a state has entered (R3, R7, R8). -/
def EnteredFor (x : RecState) (e : PhasesEntered) : Prop :=
  match x with
  | .opened .vibe => e.vibe = true
  | .opened .ring => e.vibe = true ∧ e.ring = true
  | .opened .strip => e.vibe = true ∧ e.ring = true ∧ e.strip = true
  | .opened .settle => e = ⟨true, true, true, true⟩
  | .grace => e = ⟨true, true, true, true⟩
  | _ => True

/-- One record's part of the law of records (R2, R3, R12, R13, R16). -/
def RecordOk (r other : CycleRecord) : Prop :=
  (r.state = .free → r = CycleRecord.freed r.number) ∧
  (r.state ≠ .free → r.number.isSome = true) ∧
  (r.cycleTimer.isSome = r.isOpen) ∧
  (r.graceTimer.isSome = true ↔ r.state = .grace) ∧
  (r.state = .wait → other.state = .judging ∧ r.slot.isSome = true) ∧
  (r.state = .judging → r.slot.isSome = true) ∧
  (r.slot = none → r.accs = []) ∧
  EnteredFor r.state r.entered

/-- At most one record is OPEN and at most one is JUDGING (R2); what each state of a record carries; HALTED holds none but FREE
and JUDGING (R18); the verdict unit judges just the JUDGING record (R72); WATCHING has its setup and channels (R170). -/
def RecordLaw (s : State) : Prop :=
  ¬(s.tracker.a.isOpen = true ∧ s.tracker.b.isOpen = true) ∧
  ¬(s.tracker.a.state = .judging ∧ s.tracker.b.state = .judging) ∧
  RecordOk s.tracker.a s.tracker.b ∧ RecordOk s.tracker.b s.tracker.a ∧
  (s.engine.operating = .halted →
    (s.tracker.a.state = .free ∨ s.tracker.a.state = .judging) ∧
    (s.tracker.b.state = .free ∨ s.tracker.b.state = .judging)) ∧
  (s.tracker.a.state = .judging ↔ s.verdict.judging.map Judging.record = some .a) ∧
  (s.tracker.b.state = .judging ↔ s.verdict.judging.map Judging.record = some .b) ∧
  (s.engine.operating = .watching → s.tables.setup.isSome = true ∧ s.tables.channels ≠ [])

/-- No two channel entries share a (pod, channel) pair or a watch point (R20); every field lies in its range; the table has at
most 32 entries. -/
def ChannelLaw (s : State) : Prop :=
  s.tables.channels.length ≤ 32 ∧
  (∀ e ∈ s.tables.channels,
    1 ≤ e.hitThreshold ∧ e.hitThreshold ≤ 32767 ∧ 1 ≤ e.deadSpan ∧ e.deadSpan ≤ 255 ∧ e.decayThreshold ≤ 2047) ∧
  s.tables.channels.Pairwise fun d e => ¬(d.pod = e.pod ∧ d.channel = e.channel) ∧ d.watchPoint ≠ e.watchPoint

/-- The copies in the examination queue and in the trace ring name entries of the channel table in force: a copy's pod and
channel are its entry's (R21, R24); in HALTED the queue is empty (R27); the ring holds at most 64 blocks, all of the traced
channel (R185, R186). -/
def CopyLaw (s : State) : Prop :=
  (∀ c ∈ s.exam, ∃ e, s.tables.channels[c.entry]? = some e ∧ e.pod = c.pod ∧ e.channel = c.channel) ∧
  (s.engine.operating = .halted → s.exam = []) ∧
  (match s.trace with
   | .off => True
   | .running ch ring => ch < s.tables.channels.length ∧ ring.length ≤ 64 ∧ ∀ c ∈ ring, c.entry = ch
   | .frozen ch ring => ch < s.tables.channels.length ∧ ring.length ≤ 64 ∧ ∀ c ∈ ring, c.entry = ch)

/-- The staging area of an open load and its remaining count make up its declared count, within the kind's bounds; a CHANNELS
load is open only in HALTED (R177, R178, R183). -/
def LoadLaw (s : State) : Prop :=
  match s.engine.load with
  | none => True
  | some l =>
    1 ≤ l.remaining ∧
    match l.staging with
    | .channels records =>
      s.engine.operating = .halted ∧ records.length + l.remaining = l.declared ∧ l.declared ≤ 32
    | .mould _ header profiles =>
      profiles.length + l.remaining = l.declared ∧ l.declared = header.w ∧ header.w ≤ 24 ∧
      ∀ p ∈ profiles, p.ringHi ≤ 255

/-- A masked band of a profile: its ranges, and its current baseline within the drift limit of the loaded one (R57, R58). -/
def BandOk (limit : Nat) (place : Option BandProfile) : Prop :=
  match place with
  | none => True
  | some b =>
    b.loaded ≤ 2047 ∧ b.current ≤ 2047 ∧ b.current ≤ b.loaded + limit ∧ b.loaded ≤ b.current + limit ∧
    1 ≤ b.tolerance ∧ b.tolerance ≤ 511

/-- A profile in its ranges (R57). -/
def ProfileOk (limit : Nat) (p : Profile) : Prop :=
  BandOk limit p.bands.b1 ∧ BandOk limit p.bands.b2 ∧ BandOk limit p.bands.b3 ∧ BandOk limit p.bands.b4 ∧
  (p.bands.b1.isSome || p.bands.b2.isSome || p.bands.b3.isSome || p.bands.b4.isSome) = true ∧
  (∀ l, p.hitLimit = some l → l ≤ 254) ∧ (∀ w, p.ringWindow = some w → w.1 ≤ w.2 ∧ w.2 ≤ 255) ∧
  p.blindStreak ≤ 15

/-- A mould record in its ranges (R56, R57, R59). -/
def MouldOk (m : MouldRecord) : Prop :=
  1 ≤ m.header.k ∧ m.header.k ≤ m.header.n ∧ m.header.n ≤ 8 ∧ m.header.driftShift ≤ 7 ∧ m.header.driftLimit ≤ 511 ∧
  1 ≤ m.header.minVibe ∧ m.header.minVibe ≤ 255 ∧ m.header.gapLimit ≤ 255 ∧ 1 ≤ m.header.w ∧ m.header.w ≤ 24 ∧
  m.profiles.length = m.header.w ∧ m.profiles.Pairwise (fun p q => p.watchPoint < q.watchPoint) ∧
  (∀ p ∈ m.profiles, ProfileOk m.header.driftLimit p) ∧ m.judged ≤ 4294967295

/-- Every LOADED slot holds a mould record in its ranges (R55 to R59). -/
def MouldLaw (s : State) : Prop :=
  ∀ slot m, s.mould slot = some m → MouldOk m

/-- A debouncer holds a candidate and a running timer together, the candidate is the raw value and differs from the debounced
value; with no candidate the raw value is the debounced one (R41, R42, R43). -/
def DebounceOk {α : Type} (d : Debouncer α) : Prop :=
  match d.candidate with
  | some c => d.timer = some 50 ∧ c = d.raw ∧ d.debounced ≠ some c
  | none => d.timer = none ∧ d.debounced = some d.raw

/-- The mould state and its snapshot agree with the debounced inputs, and a CONFIRMED slot is LOADED (R43, R44, R45). -/
def MonitorLaw (s : State) : Prop :=
  DebounceOk s.monitor.code ∧ DebounceOk s.monitor.clamp ∧
  match s.monitor.state with
  | .none => s.monitor.clamp.debounced ≠ some true ∨ s.monitor.code.debounced = none
  | .unconfirmed => s.monitor.clamp.debounced = some true ∧ s.monitor.code.debounced.isSome = true
  | .confirmed snap =>
    snap.clamp = true ∧ s.monitor.clamp.debounced = some true ∧ s.monitor.code.debounced = some snap.code ∧
    (s.mould snap.code).isSome = true

/-- One record's part of the law of carried slots: an OPEN record that carries a slot carries the installed slot (R17); a
carried slot is LOADED; the record has one accumulator for each profile of its mould, in the same order (R29). -/
def CarriedOk (s : State) (r : CycleRecord) : Prop :=
  ∀ slot, r.slot = some slot →
    (r.isOpen = true → s.installed = some slot) ∧
    ∃ m, s.mould slot = some m ∧ r.accs.map Accumulator.watchPoint = m.profiles.map Profile.watchPoint

/-- Slots carried by records, and the slot of the record being judged, which cannot change while it is judged (R17, R29, R63,
R73). -/
def CarriedLaw (s : State) : Prop :=
  CarriedOk s s.tracker.a ∧ CarriedOk s s.tracker.b ∧
  ∀ j, s.verdict.judging = some j → ∃ slot, (s.tracker.get j.record).slot = some slot ∧ s.mould slot = some j.mould

/-- A suspect entry under its mould's K and N (R93, R94). -/
def EntryOk (h : MouldHeader) (e : SuspectEntry) : Prop :=
  1 ≤ e.window.length ∧ e.window.length ≤ h.n ∧ e.lastDev ≠ 0 ∧
  match e.state with
  | .suspect => dCount e.window < h.k ∧ e.confirmedCycle = none
  | .confirmed => dCount e.window = h.k ∧ e.confirmedCycle.isSome = true

/-- No two suspect entries name one slot and watch point (R92), and each has the window its slot's K and N ask (R94). -/
def SuspectLaw (s : State) : Prop :=
  (s.suspects.Pairwise fun d e => ¬(d.slot = e.slot ∧ d.watchPoint = e.watchPoint)) ∧
  ∀ e ∈ s.suspects, ∃ m, s.mould e.slot = some m ∧ EntryOk m.header e

/-- A pod's state and timer (R144, R146, R148): at rest while HALTED or not present; in WATCHING a LIVE present pod's timer runs
with its limit or is suspended, as port U's sent flow state says, and a SILENT pod's is stopped. -/
def PodOk (s : State) (p : PodId) : Prop :=
  if s.watching = true ∧ s.podPresent p = true then
    match s.pods[p].state with
    | .live =>
      s.pods[p].timer = (match s.portU.txFlow with | .go => s.freshTimer p | .hold => .suspended)
    | .silent => s.pods[p].timer = .stopped
  else s.pods[p] = Pod.reset

/-- The law of pods (R144, R146, R148). -/
def PodLaw (s : State) : Prop := ∀ p, PodOk s p

/-- A port's signal timer runs just while it has signal (R137), and a frame in progress has at most 246 bytes (R135). -/
def ReceiverOk (p : LinkPort) : Prop :=
  (p.signalTimer = match p.signal with | .present => some 10 | .lost => none) ∧
  (p.signal = .lost → p.framing = .between ∧ p.rxFlow = .released) ∧
  ∀ bytes, p.framing = .inFrame bytes → bytes.length ≤ 246

/-- A frame that is being sent has its END still to come (R133). -/
def TransmitterOk (p : LinkPort) : Prop :=
  ∀ x, p.tx = some x → x.place ≤ x.bytes.length + 1

/-- Both receivers and transmitters, and the stall timing of port D, which runs only in a held stretch (R143). -/
def PortLaw (s : State) : Prop :=
  ReceiverOk s.portU ∧ ReceiverOk s.portD ∧ TransmitterOk s.portU ∧ TransmitterOk s.portD ∧
  (s.portD.rxFlow = .released → s.stall = ⟨none, false⟩) ∧ (s.stall.stalled = true → s.stall.timer = none)

/-- All the laws together. -/
def Sound (s : State) : Prop :=
  NoIdleWait s ∧ LinesLaw s ∧ CauseLaw s ∧ QueueLaw s ∧ FlowLaw s ∧ RecordLaw s ∧ ChannelLaw s ∧ CopyLaw s ∧ LoadLaw s ∧
  MouldLaw s ∧ MonitorLaw s ∧ CarriedLaw s ∧ SuspectLaw s ∧ PodLaw s ∧ PortLaw s

/-! ### Own frames and requests -/

/-- An own frame is placed where no frame waits at an idle, released transmitter: port D starts it at once if it may, and
otherwise it joins the tail of the own queue (R157, R158). -/
def State.placed (s : State) (f : OwnFrame) : State :=
  if s.portD.tx = none ∧ s.portD.rxFlow = .released then
    { s with
      portD := { s.portD with tx := some (.start (f.bytes s.station)) }
      paths := { s.paths with passOver := 0 } }
  else { s with paths := { s.paths with own := s.paths.own ++ [f] } }

/-- The Reply to a request (R164). -/
def replyTo (r : Request) (a : Answer) : OwnFrame := .reply ⟨r.source, r.name, r.tag, a⟩

/-- The request at the head of the inbox is of the row, and there is room for its Reply (R164, R165 check 1). -/
def Served (s : State) (row : Instr) (r : Request) (rest : List Request) : Prop :=
  s.engine.inbox = r :: rest ∧ requestRow s.engine.load r = row ∧ s.paths.own.length < 12

/-- The state once the request at its head has left the inbox. -/
def State.popped (s : State) (rest : List Request) : State :=
  { s with engine := { s.engine with inbox := rest } }

/-- A request is answered with no other effect: it leaves the inbox and its Reply is placed. -/
def State.answeredOnly (s : State) (r : Request) (rest : List Request) (a : Answer) : State :=
  (s.popped rest).placed (replyTo r a)

/-! ### Received frames -/

/-- A port's receiver after a valid symbol that leaves it in the given framing state: it has signal (R132, R137). -/
def State.heard (s : State) (p : Port) (x : Framing) : State :=
  s.setPort p { s.port p with framing := x, signal := .present, signalTimer := some 10 }

/-- The data completes a frame on the port: the receiver is IN FRAME, and all its bytes, at most 246, are `bytes`. -/
def Completes (s : State) (p : Port) (data bytes : List Byte) : Prop :=
  ∃ before, (s.port p).framing = .inFrame before ∧ bytes = before ++ data ∧ bytes.length ≤ 246

/-- The four receive checks of R135 as the rule lists them. -/
def PassesChecks (bytes : List Byte) : Prop :=
  6 ≤ bytes.length ∧ (bytes.getD 3 0).toNat ≤ 240 ∧ bytes.length = 6 + (bytes.getD 3 0).toNat ∧
  bytes.drop (bytes.length - 2) = enc16 (crc (bytes.take (bytes.length - 2))).toNat

/-- The station addresses of a good frame pass R138. -/
def AddressesStand (s : State) (f : Frame) : Prop :=
  f.dest.toNat ∈ [0, 1, 2, 3, 4, 5, 6, 7, 8, 16, 17, 18, 19, 20, 21, 22, 23, 31] ∧
  f.source.toNat ∈ [0, 1, 2, 3, 4, 5, 6, 7, 8, 16, 17, 18, 19, 20, 21, 22, 23] ∧
  f.source.toNat ≠ 16 + s.straps.sta.toNat

/-- A frame is legal on port U (R149). -/
def LegalOnU (s : State) (f : Frame) : Prop :=
  f.source ≠ 0 ∧ ¬(1 ≤ f.dest.toNat ∧ f.dest.toNat ≤ 8) ∧ f.dest.toNat ≠ 16 + s.straps.sta.toNat ∧ f.kind ≠ 3

/-- A frame is legal on port D (R149). -/
def LegalOnD (f : Frame) : Prop :=
  f.dest ≠ 0 ∧ ¬(1 ≤ f.source.toNat ∧ f.source.toNat ≤ 8)

/-! ### Filters and levels in the real numbers -/

/-- A pre-warped edge (R23). -/
noncomputable def prewarp (f : Nat) : ℝ := 2 * 48000 * Real.tan (Real.pi * f / 48000)

/-- The coefficients of R23, in the real numbers. -/
structure ExactFilter where
  g  : ℝ
  a0 : ℝ
  a1 : ℝ
  a2 : ℝ
  a3 : ℝ
  a4 : ℝ

/-- The filter of a band (R23). -/
noncomputable def exactFilter (band : Band) : ExactFilter :=
  let k : ℝ := 2 * 48000
  let b := prewarp band.upper - prewarp band.lower
  let w02 := prewarp band.lower * prewarp band.upper
  let c4 := k ^ 4
  let c3 := Real.sqrt 2 * b * k ^ 3
  let c2 := (2 * w02 + b ^ 2) * k ^ 2
  let c1 := Real.sqrt 2 * b * w02 * k
  let c0 := w02 ^ 2
  { g := b ^ 2 * k ^ 2
    a0 := c4 + c3 + c2 + c1 + c0
    a1 := -4 * c4 - 2 * c3 + 2 * c1 + 4 * c0
    a2 := 6 * c4 - 2 * c2 + 6 * c0
    a3 := -4 * c4 + 2 * c3 - 2 * c1 + 4 * c0
    a4 := c4 - c3 + c2 - c1 + c0 }

/-- The filter state of R23 and the energy sum of R32, in the real numbers; inputs and outputs are newest first. -/
structure ExactRun where
  x1 : ℝ
  x2 : ℝ
  x3 : ℝ
  x4 : ℝ
  y1 : ℝ
  y2 : ℝ
  y3 : ℝ
  y4 : ℝ
  energy : ℝ

/-- One sample through the filter equation of R23; its squared output joins the energy (R32). -/
noncomputable def ExactRun.sample (c : ExactFilter) (r : ExactRun) (x : Sample) : ExactRun :=
  let x0 : ℝ := (x.toInt : ℝ)
  let y := (c.g * x0 - 2 * c.g * r.x2 + c.g * r.x4 - c.a1 * r.y1 - c.a2 * r.y2 - c.a3 * r.y3 - c.a4 * r.y4) / c.a0
  ⟨x0, r.x1, r.x2, r.x3, y, r.y1, r.y2, r.y3, r.energy + y ^ 2⟩

/-- The zero filter state with an energy sum of 0 (R29). -/
noncomputable def ExactRun.zero : ExactRun := ⟨0, 0, 0, 0, 0, 0, 0, 0, 0⟩

/-- One block through the filter of its band, continuing from the state the block before left (R32). -/
noncomputable def ExactRun.block (r : ExactRun) (b : Band × List Sample) : ExactRun :=
  b.2.foldl (ExactRun.sample (exactFilter b.1)) r

/-- The energy sum of a band over its blocks, from the zero filter state (R29, R32). -/
noncomputable def exactEnergy (h : BandHistory) : ℝ := (h.foldl ExactRun.block ExactRun.zero).energy

/-- R33's rounding and clamp of a mean square: the nearest integer to 160 log10, a half upward, brought into 0-2047. -/
noncomputable def exactLevel (meanSquare : ℝ) : Nat :=
  (min 2047 (max 0 ⌊160 * Real.logb 10 meanSquare + 1 / 2⌋)).toNat

/-- Every band of a history has edges in the range of R22. -/
def BandsInRange (h : BandHistory) : Prop :=
  ∀ b ∈ h, 10 ≤ b.1.lower ∧ b.1.lower < b.1.upper ∧ b.1.upper ≤ 20000

end Sys2Proof.Machine
end

