-- ==== Sys2Proof/Certificates/Slice0/Obligations.lean ====
section
/-! DEFINITION. The statements for the provers.

Shape. A result statement says which next state a command answers: `State.settle s u` is the end of a step that began in `s`
and whose own effect left `u`; what that end does, whole, is the statement StepEndDoesThisMuch. `u` is written field by field,
so all that it does not name is unchanged. -/

open Sys2Proof Sys2Proof.Machine

/-! ### The step -/

/-- A step executes the command at the front of the queue on the state with the queue's rest, and answers its outcome; on an
empty queue no event is taken, and both transmitters come to a symbol boundary: a sent flow state that has changed since the last
one has its symbol sent, in a frame or between frames; otherwise a frame that is being sent has its next symbol sent, of START and
its bytes, and where only its END is left the transmitter waits for the event of the frame's end; otherwise a transmitter between
frames sends IDLE, or HOLD while its sent flow state is HOLD (R133, R141; log 1, log 17). -/
def Obligations.StepRunsFrontCommand : Prop :=
  (∀ (c : Instr) (rest : List Instr) (s : State), s.pending = c :: rest → step s = exec c { s with pending := rest }) ∧
  ∀ s : State, s.pending = [] →
    let after := fun p : LinkPort =>
      if p.flowDue = true then
        { p with flowDue := false, sent := [match p.txFlow with | .go => .go | .hold => .hold] }
      else match p.tx with
        | none => { p with sent := [match p.txFlow with | .go => .idle | .hold => .hold] }
        | some x =>
          match (Symbol.start :: x.bytes.map Symbol.data)[x.place]? with
          | some y => { p with tx := some { bytes := x.bytes, place := x.place + 1 }, sent := [y] }
          | none => p
    step s = .next { s with portU := after s.portU, portD := after s.portD }

/-- Every command answers a next state, in every state, and leaves the waiting commands alone, the resets among them: the manual
names no event that stops the part, an event that cannot occur in a state answers that state, and the waiting commands are the
sender's (log 1, log 2, log 16). -/
def Obligations.EveryCommandAnswersNext : Prop :=
  ∀ (c : Instr) (s : State), ∃ t, exec c s = .next t ∧ t.pending = s.pending

/-- The end of a step (R114, R115, R123, R125, R126, R128). A flag is set afterwards just when the step's effect left it set,
its standing cause arose, or a Notice was called for and found no room. A Notice is called for just when no flag was both set
and enabled before and some flag is so now; its contents are those of its placing. The lines are evaluated on the outcome.
Nothing else changes. -/
def Obligations.StepEndDoesThisMuch : Prop :=
  ∀ s u : State, NoIdleWait u →
    let t := State.settle s u
    let arose := fun c : Condition => u.causeHolds c = true ∧ s.causeHolds c = false
    let setNow := fun c : Condition => c.isIn u.cond.flags = true ∨ arose c
    let called :=
      (∀ c : Condition, ¬(c.isIn s.cond.flags = true ∧ c.isIn s.cond.enables = true)) ∧
      ∃ c : Condition, setNow c ∧ c.isIn u.cond.enables = true
    let room := u.paths.own.length < 12 ∧ u.nonReplies < 10
    t = { u with cond := t.cond, lines := t.lines, paths := t.paths, portD := t.portD } ∧
    t.cond.enables = u.cond.enables ∧
    (∀ c : Condition, c.isIn t.cond.flags = true ↔ setNow c ∨ (c = .queueOverrun ∧ called ∧ ¬room)) ∧
    t.lines = t.evalLines ∧
    (called → room → ∃ flags : CondSet, (∀ c : Condition, c.isIn flags = true ↔ setNow c) ∧
      let v := u.placed (.notice ⟨⟨flags, u.cond.enables⟩, u.engine.operating, u.mouldReport⟩)
      t.paths = v.paths ∧ t.portD = v.portD) ∧
    (¬(called ∧ room) → t.paths = u.paths ∧ t.portD = u.portD)

/-- The six standing causes, and the nine conditions without one (R115); `standing` is the set of those that hold.

On every state whose lines show its flags, which is every state after a step, STOP is asserted exactly while a set flag has class
STOP, and in split mode S0 to S3 each carry their indication (R119, R120, R121). With no setup record every class is NONE. -/
def Obligations.StandingCausesAndSplitLines : Prop :=
  (∀ (s : State) (c : Condition),
       (c.isIn s.standing = true ↔ s.causeHolds c = true) ∧
       (s.causeHolds c = true ↔
         match c with
         | .crack =>
           ∃ snap, s.monitor.state = .confirmed snap ∧ ∃ e ∈ s.suspects, e.state = .confirmed ∧ e.slot = snap.code
         | .podSilent => ∃ p : PodId, s.podPresent p = true ∧ s.pods[p].state = .silent
         | .mouldChanged => s.monitor.state = .unconfirmed
         | .mouldUnknown =>
           s.monitor.clamp.debounced = some true ∧ ∃ code, s.monitor.code.debounced = some code ∧ s.moulds[code] = none
         | .downstreamStall => s.stall.stalled = true
         | .linkFault => s.portU.signal = .lost ∨ s.portD.signal = .lost
         | _ => False)) ∧
  (∀ s : State, LinesLaw s →
       let class' := fun c : Condition => match s.tables.setup with
         | some su => su.classes[c.index]
         | none => .none
       let shows := fun x : CondClass => ∃ c : Condition, c.isIn s.cond.flags = true ∧ class' c = x
       (s.lines.stop = true ↔ shows .stop) ∧
       (s.straps.sigMode = .split →
         (s.lines.signals.getLsbD 0 = true ↔ shows .warn ∨ shows .stop) ∧
         (s.lines.signals.getLsbD 1 = true ↔ shows .advise) ∧
         (s.lines.signals.getLsbD 2 = true ↔ Condition.crack.isIn s.cond.flags = true) ∧
         (s.lines.signals.getLsbD 3 = true ↔ ∃ snap, s.monitor.state = .confirmed snap)))

/-- In coded mode, on every state whose lines show its flags, which is every state after a step, the four lines carry the code of
the highest-ranked set flag whose class is not NONE, and 0 when there is none; rank is by class, then by the lower code; STOP works
as in split mode (R122). -/
def Obligations.CodedLinesCarryTheHighestRank : Prop :=
  ∀ s : State, LinesLaw s → s.straps.sigMode = .coded →
    let class' := fun c : Condition => match s.tables.setup with
      | some su => su.classes[c.index]
      | none => .none
    let rank := fun x : CondClass => match x with
      | .none => 0
      | .advise => 1
      | .warn => 2
      | .stop => 3
    let shown := fun c : Condition => c.isIn s.cond.flags = true ∧ class' c ≠ .none
    ((∀ c, ¬shown c) → s.lines.signals = 0) ∧
    (∀ c, shown c →
      (∀ d, shown d → d ≠ c →
        rank (class' d) < rank (class' c) ∨ (rank (class' d) = rank (class' c) ∧ c.index < d.index)) →
      s.lines.signals.toNat = c.index.val + 1) ∧
    (s.lines.stop = true ↔ ∃ c, c.isIn s.cond.flags = true ∧ class' c = .stop)

/-! ### Resets -/

/-- POWER_ON_RESET and LINE_RESET give every piece of state the value its chapter states for the reset, with the straps and the
raw inputs as the pins show them; the waiting commands are the sender's and stay (log 16). -/
def Obligations.ResetsGiveTheResetState : Prop :=
  ∀ (pins : Pins) (s : State),
    let port : LinkPort :=
      { framing := .between, signal := .present, signalTimer := some 10, rxFlow := .released, txFlow := .go, flowDue := false,
        tx := none, sent := [.idle] }
    let free : CycleRecord :=
      { state := .free, number := none, slot := none, entered := ⟨false, false, false, false⟩, silenced := 0, accs := [],
        cycleTimer := none, graceTimer := none }
    let fresh := fun cause : ResetCause =>
      ({ pending := s.pending
         engine := { operating := .halted, inbox := [], load := none, cause := cause }
         straps := { sta := pins.sta, rate := pins.rate, sigMode := pins.sigMode }
         tables := { setup := none, channels := [], bandSets := Vector.replicate 8 none }
         tracker := { a := free, b := free, untracked := none, unsync := false, lastClosed := none }
         exam := []
         moulds := Vector.replicate 16 none
         monitor :=
           { code := { raw := pins.code, debounced := none, candidate := some pins.code, timer := some 50 }
             clamp := { raw := pins.clamp, debounced := none, candidate := some pins.clamp, timer := some 50 }
             state := .none }
         suspects := []
         verdict := { judging := none, summary := none }
         cond := { flags := 0, enables := 0 }
         lines := { stop := false, signals := 0 }
         portU := port
         portD := port
         stall := { timer := none, stalled := false }
         pods := Vector.replicate 8 { state := .live, timer := .stopped }
         paths := { forward := [], upward := [], own := [], passOver := 0 }
         trace := .off } : State)
    exec (.powerOnReset pins) s = .next (fresh .power) ∧ exec (.lineReset pins) s = .next (fresh .line)

/-- The state after reset meets every law that the steps keep. -/
def Obligations.ResetIsSound : Prop := Sound State.reset

/-! ### Symbols -/

/-- FRAME_START and EARLY_START: the port has signal, and a new frame begins with no byte; a frame in progress is discarded
with LINK FAULT, a discarding stretch ends without (R132, R135, R137).

STRAY_SYMBOL: between frames a data symbol and END each raise LINK FAULT and change nothing but the signal; a data symbol
IN FRAME is appended, and as the 247th byte begins a discarding stretch with LINK FAULT; END IN FRAME ends the frame; in a
discarding stretch neither raises anything (R132, R135, R137; log 6).

CODE_VIOLATION and FRAME_OVERLENGTH: a code violation discards a frame in progress with LINK FAULT, ends a discarding
stretch without, and otherwise does nothing, and it restarts no signal timer; the 247th byte discards the frame with LINK FAULT
and begins a discarding stretch (R132, R135, R137; log 6). -/
def Obligations.SymbolsMoveTheFraming : Prop :=
  (∀ (p : Port) (s : State) (c : Instr), c = .frameStart p ∨ c = .earlyStart p →
       ((∃ bytes, (s.port p).framing = .inFrame bytes) →
         exec c s = .next (State.settle s ((s.heard p (.inFrame [])).raise .linkFault))) ∧
       ((∀ bytes, (s.port p).framing ≠ .inFrame bytes) → exec c s = .next (State.settle s (s.heard p (.inFrame []))))) ∧
  (∀ (p : Port) (s : State) (b : Byte),
       ((s.port p).framing = .between →
         exec (.straySymbol p (.data b)) s = .next (State.settle s ((s.heard p .between).raise .linkFault)) ∧
         exec (.straySymbol p .frameEnd) s = .next (State.settle s ((s.heard p .between).raise .linkFault))) ∧
       ((s.port p).framing = .discarding →
         exec (.straySymbol p (.data b)) s = .next (State.settle s (s.heard p .discarding)) ∧
         exec (.straySymbol p .frameEnd) s = .next (State.settle s (s.heard p .between))) ∧
       ∀ bytes, (s.port p).framing = .inFrame bytes →
         exec (.straySymbol p .frameEnd) s = exec (.frameReceived p []) s ∧
         (bytes.length < 246 →
           exec (.straySymbol p (.data b)) s = .next (State.settle s (s.heard p (.inFrame (bytes ++ [b]))))) ∧
         (246 ≤ bytes.length →
           exec (.straySymbol p (.data b)) s = .next (State.settle s ((s.heard p .discarding).raise .linkFault)))) ∧
  (∀ (p : Port) (s : State),
       ((s.port p).framing = .between →
         (LinesLaw s → exec (.codeViolation p) s = .next s) ∧
         exec (.frameOverlength p) s = .next (State.settle s ((s.heard p .between).raise .linkFault))) ∧
       ((s.port p).framing = .discarding →
         exec (.codeViolation p) s = .next (State.settle s (s.setPort p { s.port p with framing := .between })) ∧
         exec (.frameOverlength p) s = .next (State.settle s (s.heard p .discarding))) ∧
       ∀ bytes, (s.port p).framing = .inFrame bytes →
         exec (.codeViolation p) s =
           .next (State.settle s ((s.setPort p { s.port p with framing := .between }).raise .linkFault)) ∧
         exec (.frameOverlength p) s = .next (State.settle s ((s.heard p .discarding).raise .linkFault)))

/-- HOLD_RECEIVED: the port has signal and its transmitter is held; on port D a stretch that begins is timed with the setup's
stall limit, or not at all while the setup is absent, and a HOLD within a stretch changes nothing of it (R142, R143).

GO_RECEIVED and IDLE_RECEIVED: the port has signal and its transmitter is released; on port D the held stretch ends, and
port D comes to a decision point; on port U the upward head may start. In a released state nothing more happens. An IDLE inside
a frame first discards it with LINK FAULT (R132, R142, R143).

SIGNAL_LOST: the signal is LOST with its timer stopped, a frame in progress is discarded, the transmitter is released as
by GO, and LINK FAULT is raised; with the timer stopped the event does not occur (R137; log 2). -/
def Obligations.HoldGoIdleAndLossMoveTheFlow : Prop :=
  (∀ s : State,
       exec (.holdReceived .u) s =
         .next (State.settle s
           { s with portU := { s.portU with signal := .present, signalTimer := some 10, rxFlow := .held } }) ∧
       (s.portD.rxFlow = .held →
         exec (.holdReceived .d) s =
           .next (State.settle s { s with portD := { s.portD with signal := .present, signalTimer := some 10 } })) ∧
       (s.portD.rxFlow = .released →
         exec (.holdReceived .d) s =
           .next (State.settle s
             { s with
               portD := { s.portD with signal := .present, signalTimer := some 10, rxFlow := .held }
               stall := { timer := s.tables.setup.map Setup.stallLimit, stalled := false } }))) ∧
  (∀ s : State,
       (s.portU.rxFlow = .held →
         exec (.goReceived .u) s =
           .next (State.settle s
             { s with portU := { s.portU with signal := .present, signalTimer := some 10, rxFlow := .released } }.startU)) ∧
       (s.portD.rxFlow = .held →
         exec (.goReceived .d) s =
           .next (State.settle s
             { s with
               portD := { s.portD with signal := .present, signalTimer := some 10, rxFlow := .released }
               stall := { timer := none, stalled := false } }.decideD)) ∧
       (∀ p, (s.port p).rxFlow = .released →
         exec (.goReceived p) s = .next (State.settle s (s.heard p (s.port p).framing))) ∧
       (∀ p, (∃ bytes, (s.port p).framing = .inFrame bytes) → (s.port p).rxFlow = .released →
         exec (.idleReceived p) s = .next (State.settle s ((s.heard p .between).raise .linkFault))) ∧
       (∀ p, (∀ bytes, (s.port p).framing ≠ .inFrame bytes) → (s.port p).rxFlow = .released →
         exec (.idleReceived p) s = .next (State.settle s (s.heard p .between))) ∧
       ∀ p, (s.port p).rxFlow = .held →
         let v := match (s.port p).framing with
           | .inFrame _ => s.raise .linkFault
           | _ => s
         exec (.idleReceived p) s =
           .next (State.settle s
             (match p with
              | .u =>
                { v with
                  portU :=
                    { v.portU with framing := .between, signal := .present, signalTimer := some 10, rxFlow := .released } }.startU
              | .d =>
                { v with
                  portD := { v.portD with framing := .between, signal := .present, signalTimer := some 10, rxFlow := .released }
                  stall := { timer := none, stalled := false } }.decideD))) ∧
  (∀ s : State,
       (∀ p, (s.port p).signalTimer = none → exec (.signalLost p) s = .next s) ∧
       (∀ p, (s.port p).signalTimer.isSome = true → (s.port p).rxFlow = .released →
         exec (.signalLost p) s =
           .next (State.settle s
             ((s.setPort p { s.port p with framing := .between, signal := .lost, signalTimer := none }).raise .linkFault))) ∧
       (s.portU.signalTimer.isSome = true → s.portU.rxFlow = .held →
         exec (.signalLost .u) s =
           .next (State.settle s
             ({ s with
                portU := { s.portU with framing := .between, signal := .lost, signalTimer := none, rxFlow := .released } }.startU.raise
               .linkFault))) ∧
       (s.portD.signalTimer.isSome = true → s.portD.rxFlow = .held →
         exec (.signalLost .d) s =
           .next (State.settle s
             ({ s with
                portD := { s.portD with framing := .between, signal := .lost, signalTimer := none, rxFlow := .released }
                stall := { timer := none, stalled := false } }.decideD.raise .linkFault))))

/-! ### Transmitters, queues and flow control -/

/-- PORT_D_FRAME_END: the transmitter has sent its frame to its END and is idle, and port D comes to a decision point;
PORT_U_FRAME_END: the same, and the upward head may start. What is sent is a flow symbol that is due, then all of START, the
frame's bytes and END that was left (R133, R141; log 17). With no frame being sent neither event occurs (R155, R158; log 2).

A decision point grants by the table of R158, and there is none while port D sends or is held or both queues are empty;
port U starts the head of its queue whenever it may (R142, R155, R158). -/
def Obligations.FrameEndsAndTheArbiter : Prop :=
  (∀ s : State,
       let finished := fun (p : LinkPort) (x : Outgoing) =>
         { p with
           tx := none
           flowDue := false
           sent :=
             (if p.flowDue = true then [match p.txFlow with | .go => Symbol.go | .hold => .hold] else []) ++
             (Symbol.start :: x.bytes.map Symbol.data ++ [Symbol.frameEnd]).drop x.place }
       (∀ x, s.portD.tx = some x →
         exec .portDFrameEnd s = .next (State.settle s { s with portD := finished s.portD x }.decideD)) ∧
       (∀ x, s.portU.tx = some x →
         exec .portUFrameEnd s = .next (State.settle s { s with portU := finished s.portU x }.startU)) ∧
       (s.portD.tx = none → exec .portDFrameEnd s = .next s) ∧
       (s.portU.tx = none → exec .portUFrameEnd s = .next s)) ∧
  (∀ s : State,
       (s.portD.tx.isSome = true ∨ s.portD.rxFlow = .held ∨ (s.paths.forward = [] ∧ s.paths.own = []) → s.decideD = s) ∧
       (s.portU.tx.isSome = true ∨ s.portU.rxFlow = .held ∨ s.paths.upward = [] → s.startU = s) ∧
       (s.portD.tx = none → s.portD.rxFlow = .released →
         (∀ f fs, s.paths.forward = f :: fs → s.paths.own = [] ∨ s.paths.passOver ≤ 2 →
           s.decideD =
             { s.setForward fs with
               portD := { s.portD with tx := some { bytes := f, place := 0 } }
               paths :=
                 { s.paths with forward := fs, passOver := if s.paths.own = [] then 0 else s.paths.passOver + 1 } }) ∧
         (∀ o os, s.paths.own = o :: os → s.paths.forward = [] ∨ 3 ≤ s.paths.passOver →
           s.decideD =
             { s with
               portD := { s.portD with tx := some { bytes := o.bytes s.station, place := 0 } }
               paths := { s.paths with own := os, passOver := 0 } })) ∧
       (s.portU.tx = none → s.portU.rxFlow = .released → ∀ f fs, s.paths.upward = f :: fs →
         s.startU =
           { s.setUpward fs with portU := { s.portU with tx := some { bytes := f, place := 0 } }, paths := { s.paths with upward := fs } }))

/-- The sent flow states follow the occupancies: HOLD from 6 (port U) and 3 (port D), GO from 2 and 1 downward, as it was in
between; the symbol of a change is due at the next symbol boundary; in WATCHING a HOLD that begins on port U suspends the timers of the LIVE present pods and a GO starts them afresh with
their limits (R141, R148).

A frame offered to the forward or the upward queue is lost with FORWARD LOSS when the queue is full; it is started at once
by an idle, released transmitter; otherwise it joins the tail (R154, R155, R156, R159). -/
def Obligations.QueuesAndSentFlowStates : Prop :=
  (∀ (s : State) (q : List (List Byte)),
       let follows := fun (high low : Nat) (p : LinkPort) =>
         let flow := if high ≤ q.length then TxFlow.hold else if q.length ≤ low then TxFlow.go else p.txFlow
         { p with txFlow := flow, flowDue := p.flowDue || decide (flow ≠ p.txFlow) }
       let u := s.setForward q
       let d := s.setUpward q
       u.paths = { s.paths with forward := q } ∧
       u.portU = follows 6 2 s.portU ∧
       (∀ p : PodId,
         u.pods[p] =
           if s.engine.operating = .watching ∧ s.podPresent p = true ∧ s.pods[p].state = .live ∧
               u.portU.txFlow ≠ s.portU.txFlow then
             ⟨.live, if u.portU.txFlow = .hold then .suspended else s.freshTimer p⟩
           else s.pods[p]) ∧
       u = { s with paths := u.paths, portU := u.portU, pods := u.pods } ∧
       d = { s with paths := { s.paths with upward := q }, portD := follows 3 1 s.portD }) ∧
  (∀ (s : State) (b : List Byte), NoIdleWait s → FlowLaw s →
       (s.paths.forward.length = 8 → s.offerForward b = s.raise .forwardLoss) ∧
       (s.portD.tx = none → s.portD.rxFlow = .released →
         s.offerForward b =
           { s with portD := { s.portD with tx := some { bytes := b, place := 0 } }, paths := { s.paths with passOver := 0 } }) ∧
       (s.portD.tx.isSome = true ∨ s.portD.rxFlow = .held → s.paths.forward.length < 8 →
         s.offerForward b = s.setForward (s.paths.forward ++ [b])) ∧
       (s.paths.upward.length = 4 → s.offerUpward b = s.raise .forwardLoss) ∧
       (s.portU.tx = none → s.portU.rxFlow = .released →
         s.offerUpward b = { s with portU := { s.portU with tx := some { bytes := b, place := 0 } } }) ∧
       (s.portU.tx.isSome = true ∨ s.portU.rxFlow = .held → s.paths.upward.length < 4 →
         s.offerUpward b = s.setUpward (s.paths.upward ++ [b])))

/-! ### Received frames -/

/-- FRAME_RECEIVED, a frame that fails: END between frames, a frame that fails a check of R135 and a frame of more than 246
bytes raise LINK FAULT and do nothing else but end the frame; END of a discarding stretch raises nothing (R132, R134, R135). That
one command carries a frame's data symbols and then its END is the model's choice, and so is the effect of one with more than 246
data symbols (log 6, log 19).

FRAME_RECEIVED, a good frame whose station addresses or direction do not stand: it is discarded with LINK FAULT; on port U
it still speaks for its pod (R138, R145, R149). -/
def Obligations.FaultyFramesAreDiscarded : Prop :=
  (∀ (p : Port) (data : List Byte) (s : State),
       ((s.port p).framing = .between →
         exec (.frameReceived p data) s = .next (State.settle s ((s.heard p .between).raise .linkFault))) ∧
       ((s.port p).framing = .discarding →
         exec (.frameReceived p data) s = .next (State.settle s (s.heard p .between))) ∧
       (∀ bytes, Completes s p data bytes → ¬PassesChecks bytes →
         exec (.frameReceived p data) s = .next (State.settle s ((s.heard p .between).raise .linkFault))) ∧
       ∀ before, (s.port p).framing = .inFrame before → before.length ≤ 246 → 246 < (before ++ data).length →
         exec (.frameReceived p data) s = .next (State.settle s ((s.heard p .between).raise .linkFault))) ∧
  (∀ (data bytes : List Byte) (s : State), PassesChecks bytes →
       (Completes s .u data bytes → ¬(AddressesStand s (frameOf bytes) ∧ LegalOnU s (frameOf bytes)) →
         exec (.frameReceived .u data) s =
           .next (State.settle s (((s.heard .u .between).podHears (frameOf bytes)).raise .linkFault))) ∧
       (Completes s .d data bytes → ¬(AddressesStand s (frameOf bytes) ∧ LegalOnD (frameOf bytes)) →
         exec (.frameReceived .d data) s = .next (State.settle s ((s.heard .d .between).raise .linkFault))))

/-- What a good frame of port U does for its pod: in WATCHING a present pod p named by the source is LIVE, its timer started
afresh with its limit under GO and suspended under HOLD; nothing else changes, and no other source changes anything (R145,
R148).

The examination copy and the forward policy. In WATCHING a Sample frame that matches an entry yields a copy when its phase
tag is VIBE, RING or STRIP, queued while fewer than 16 wait, refused with QUEUE OVERRUN otherwise; its fields stand in the payload
at their offsets, the 32 samples from offset 4; no other frame yields one. In WATCHING ALL offers every Sample frame, NONE none, TAGGED those of a flagged entry or of no entry; in HALTED all are offered
(R21, R24, R25, R153, R193). -/
def Obligations.PodCopyAndPolicyOfAFrame : Prop :=
  (∀ (s : State) (f : Frame),
       (∀ p : PodId, f.source.toNat = p.val + 1 → s.engine.operating = .watching → s.podPresent p = true →
         s.podHears f =
           { s with
             pods :=
               s.pods.set p.val
                 ⟨.live, match s.portU.txFlow with | .go => s.freshTimer p | .hold => .suspended⟩ p.isLt }) ∧
       (∀ p : PodId, f.source.toNat = p.val + 1 → s.engine.operating = .halted ∨ s.podPresent p = false →
         s.podHears f = s) ∧
       (¬(1 ≤ f.source.toNat ∧ f.source.toNat ≤ 8) → s.podHears f = s)) ∧
  (∀ (s : State) (f : Frame),
       let fits := fun e : ChannelEntry => f.source.toNat = e.pod.val + 1 ∧ (f.payload.getD 0 0).toNat = e.channel.val
       let tag := (f.payload.getD 2 0).toNat
       (s.engine.operating = .halted → s.offerCopy f = s ∧ s.policyOffers f = true) ∧
       ((∀ e ∈ s.tables.channels, ¬fits e) → s.offerCopy f = s) ∧
       (tag ∉ [2, 3, 4] → s.offerCopy f = s) ∧
       (s.engine.operating = .watching → ChannelLaw s → ∀ i e ph, s.tables.channels[i]? = some e → fits e →
         (tag, ph) ∈ [(2, ExamPhase.vibe), (3, .ring), (4, .strip)] →
         s.offerCopy f =
           if s.exam.length < 16 then
             { s with
               exam :=
                 s.exam ++
                   [{ pod := e.pod, channel := e.channel, cycleTag := f.payload.getD 1 0, phase := ph,
                      sequence := f.payload.getD 3 0,
                      samples := (List.range 32).map fun k => f.payload.getD (4 + 2 * k) 0 ++ f.payload.getD (5 + 2 * k) 0,
                      entry := i }] }
           else s.raise .queueOverrun) ∧
       (s.engine.operating = .watching → ChannelLaw s → ∀ su, s.tables.setup = some su →
         (su.policy = .all → s.policyOffers f = true) ∧
         (su.policy = .none → s.policyOffers f = false) ∧
         (su.policy = .tagged →
           (s.policyOffers f = true ↔
             (∃ e ∈ s.tables.channels, fits e ∧ e.forward = true) ∨ ∀ e ∈ s.tables.channels, ¬fits e))))

/-- FRAME_RECEIVED, a good Sample frame of 68 payload bytes on port U: its copy is offered to the examination queue, and the
forward policy decides on the frame; any other good frame is offered to the forward queue, a Sample frame of another length with
LINK FAULT (R150, R152, R153). One command carries the frame's data symbols and its END (log 6); a frame of the Sample kind is one
whatever its source, another monitor included (log 24); and where the step raises a condition as well, the frame is granted before
the Notice of the step joins the own queue (log 20). -/
def Obligations.FramesFromPodsAreCarried : Prop :=
  ∀ (data bytes : List Byte) (s : State), Completes s .u data bytes → PassesChecks bytes →
    let f := frameOf bytes
    let v := (s.heard .u .between).podHears f
    AddressesStand s f → LegalOnU s f →
    (f.kind ≠ 1 → exec (.frameReceived .u data) s = .next (State.settle s (v.offerForward bytes))) ∧
    (f.kind = 1 → f.payload.length ≠ 68 →
      exec (.frameReceived .u data) s = .next (State.settle s ((v.raise .linkFault).offerForward bytes))) ∧
    (f.kind = 1 → f.payload.length = 68 →
      exec (.frameReceived .u data) s =
        .next (State.settle s
          (if v.policyOffers f then (v.offerCopy f).offerForward bytes else v.offerCopy f)))

/-- FRAME_RECEIVED, a good frame from the controller's side: a request to the part joins the inbox, or is lost with QUEUE
OVERRUN while four wait; a request too short for a name and a tag, and any other kind to the part, is discarded with LINK FAULT;
a Mark to station 31, its kind coded 1 to 7, is shown to the tracker and passed upward; every other frame is passed upward (R1,
R151, R152, R163, R193; log 6, log 20).

The row of a request: by its name, coded 1 to 21, the length of its body for the counts it declares, and for Control its action
byte with RESTART at weight 1, HALT at 2 and START at 4; every other request is of the row UNKNOWN_REQUEST (R165, R169, R194; the
length of a Load Continue with no load open is the model's choice, log 9; the list counts are log 10, the row is log 8). -/
def Obligations.FramesFromTheControllerAreHandled : Prop :=
  (∀ (data bytes : List Byte) (s : State), Completes s .d data bytes → PassesChecks bytes →
    let f := frameOf bytes
    let v := s.heard .d .between
    let kind := (f.payload.getD 0 0).toNat
    let mine := f.dest.toNat = 16 + s.straps.sta.toNat
    AddressesStand s f → LegalOnD f →
    (mine → f.kind = 5 → 2 ≤ f.payload.length → s.engine.inbox.length < 4 →
      exec (.frameReceived .d data) s =
        .next (State.settle s
          { v with
            engine :=
              { v.engine with
                inbox :=
                  v.engine.inbox ++
                    [{ source := f.source, name := f.payload.getD 0 0, tag := f.payload.getD 1 0,
                       body := f.payload.drop 2 }] } })) ∧
    (mine → f.kind = 5 → 2 ≤ f.payload.length → 4 ≤ s.engine.inbox.length →
      exec (.frameReceived .d data) s = .next (State.settle s (v.raise .queueOverrun))) ∧
    (mine → f.kind ≠ 5 ∨ f.payload.length < 2 →
      exec (.frameReceived .d data) s = .next (State.settle s (v.raise .linkFault))) ∧
    (f.dest = 31 → f.kind = 3 → f.payload.length ≠ 3 →
      exec (.frameReceived .d data) s = .next (State.settle s ((v.raise .linkFault).offerUpward bytes))) ∧
    (f.dest = 31 → f.kind = 3 → f.payload.length = 3 → s.engine.operating = .halted ∨ kind = 0 ∨ 7 < kind →
      exec (.frameReceived .d data) s = .next (State.settle s (v.offerUpward bytes))) ∧
    (∀ k, f.dest = 31 → f.kind = 3 → f.payload.length = 3 → s.engine.operating = .watching →
      (kind, k) ∈
        [(1, MarkKind.opening), (2, .vibeOn), (3, .vibeOff), (4, .stripStart), (5, .stripEnd), (6, .close), (7, .abort)] →
      exec (.frameReceived .d data) s =
        .next (State.settle s ((v.takeMark k (f.payload.getD 1 0 ++ f.payload.getD 2 0)).offerUpward bytes))) ∧
    (¬mine → ¬(f.dest = 31 ∧ f.kind = 3) →
      exec (.frameReceived .d data) s = .next (State.settle s (v.offerUpward bytes)))) ∧
  ∀ (load : Option OpenLoad) (r : Request),
    let n := r.body.length
    let byte := fun i : Nat => (r.body.getD i 0).toNat
    let row := requestRow load r
    (∀ name length x,
      (name, length, x) ∈
        [(1, 0, Instr.identify), (2, 0, .readStatus), (4, 52, .loadSetup), (5, 1 + 17 * byte 0, .loadBandSets),
         (6, 2 + 10 * byte 1, .loadChannels), (7, 15 + 23 * byte 14, .loadMould), (9, 0, .loadAbort), (10, 2, .readMould),
         (11, 5, .confirmMould), (12, 1, .readSuspects), (13, 3, .releaseSuspect), (14, 1, .readCycle),
         (15, 2, .clearConditions), (16, 2, .setEnables), (17, 1, .traceSelect), (18, 0, .traceFreeze),
         (19, 0, .traceUnfreeze), (20, 1, .traceRead), (21, 0, .traceOff)] →
      r.name.toNat = name → row = if n = length then x else .unknownRequest) ∧
    (r.name = 3 →
      (n ≠ 1 ∨ byte 0 = 0 ∨ 7 < byte 0 → row = .unknownRequest) ∧
      (n = 1 → byte 0 ∈ [1, 3, 5, 7] → row = .restart) ∧
      (n = 1 → byte 0 ∈ [2, 6] → row = .halt) ∧
      (n = 1 → byte 0 = 4 → row = .start)) ∧
    (r.name = 8 →
      let channels := n = 1 + 10 * byte 0
      let profiles := n = 1 + 23 * byte 0
      let suits := match load.map OpenLoad.kind with
        | some .channels => channels
        | some .mould => profiles
        | none => channels ∨ profiles
      (suits → row = .loadContinue) ∧ (¬suits → row = .unknownRequest)) ∧
    (r.name = 0 ∨ 21 < r.name.toNat → row = .unknownRequest)

/-- A frame the part originates passes the receive checks, and cutting it gives back its kind, its addresses and its payload,
for every payload of up to 240 bytes (R133, R134, R135, R192). -/
def Obligations.OwnFramesPassTheChecks : Prop :=
  ∀ (kind dest source : Byte) (payload : List Byte), payload.length ≤ 240 →
    let bytes := wrapFrame kind dest source payload
    PassesChecks bytes ∧ bytes.length ≤ 246 ∧
    frameOf bytes = { kind := kind, dest := dest, source := source, payload := payload, bytes := bytes }

/-- The frames the part originates: a Reply echoes name and tag and carries the status with its body, a Finding its head and three
bytes a result, a Notice its eight bytes; each with its kind, its destination, and the part's own station as source (R192, R194,
R195).

The data of an OK, which is the body of its Reply: for each request the fields its rule names, in that order, vendor 3318, part 2416 and revision 1 among them
(R69, R89, R93, R106, R110, R117, R124, R169, R172, R173, R174, R189, R192, R194; where R192 leaves a field's code open or a group
its place, the layout is the model's choice, log 14; the block counts are four bytes, log 23). -/
def Obligations.OwnFramesHaveTheirLayout : Prop :=
  (∀ (station : Byte) (r : Reply),
    let code := fun x : Reason => match x with
      | .noSetup => 1
      | .noChannels => 2
      | .podAbsent => 3
      | .bandSetAbsent => 4
      | .fieldRange => 5
      | .duplicateSlot => 6
      | .duplicateChannel => 7
      | .duplicateWatchPoint => 8
      | .watchPointOrder => 9
      | .kAboveN => 10
      | .noClamp => 11
      | .codeMismatch => 12
      | .emptySlot => 13
      | .serialMismatch => 14
    OwnFrame.bytes station (.reply r) = wrapFrame 6 r.dest station (encReply r) ∧
    ∃ status body, encReply r = r.name :: r.tag :: BitVec.ofNat 8 status :: body.map (BitVec.ofNat 8) ∧
      match r.answer with
      | .ok data => status = 0 ∧ body.map (BitVec.ofNat 8) = encOk data
      | .more n => status = 1 ∧ body = [n]
      | .done n => status = 2 ∧ body = [n]
      | .badState op => status = 3 ∧ body = [if op = .watching then 1 else 0]
      | .badArgument => status = 4 ∧ body = []
      | .inUse slot => status = 5 ∧ body = [slot.val]
      | .loadOpen kind n => status = 6 ∧ body = [if kind = .mould then 1 else 0, n]
      | .noLoad => status = 7 ∧ body = []
      | .notFound => status = 8 ∧ body = []
      | .refused reason item => status = 9 ∧ body = [code reason, item]) ∧
  (∀ (station : Byte) (f : Finding), f.results.length ≤ 24 →
    let b := fun i => ((encFinding f).getD i 0).toNat
    let verdict := fun x : Verdict => match x with
      | .skip => 0
      | .blind => 1
      | .deviate => 2
      | .clean => 3
    let standing := fun x : Standing => match x with
      | .notListed => 0
      | .suspect => 4
      | .confirmed => 8
      | .listFull => 12
    OwnFrame.bytes station (.finding f) = wrapFrame 7 0 station (encFinding f) ∧
    (encFinding f).length = 8 + 3 * f.results.length ∧
    b 0 * 256 + b 1 = f.cycle.toNat ∧ b 2 = f.slot.val ∧ ((b 3 * 256 + b 4) * 256 + b 5) * 256 + b 6 = f.serial.toNat ∧
    b 7 = f.results.length ∧
    ∀ i r, f.results[i]? = some r →
      b (8 + 3 * i) = r.watchPoint.val ∧ b (9 + 3 * i) = verdict r.verdict + standing r.standing ∧
      b (10 + 3 * i) = r.deviations.toNat + if r.ringCut then 64 else 0) ∧
  (∀ (station : Byte) (n : Notice),
    let b := fun i => ((encNotice n).getD i 0).toNat
    OwnFrame.bytes station (.notice n) = wrapFrame 8 0 station (encNotice n) ∧ (encNotice n).length = 8 ∧
    b 0 * 256 + b 1 = n.conditions.flags.toNat ∧ b 2 * 256 + b 3 = n.conditions.enables.toNat ∧
    b 4 = (if n.operating = .watching then 1 else 0) ∧
    b 5 = (match n.mould.state with | .none => 0 | .unconfirmed => 1 | .confirmed _ => 2) ∧
    b 6 = (if n.mould.slot.isSome then 1 else 0) ∧ b 7 = ((n.mould.slot.map Fin.val).getD 0)) ∧
  ∀ body : OkBody,
    let one := fun n : Nat => ([BitVec.ofNat 8 n] : List Byte)
    let two := fun n : Nat => one (n / 256) ++ one n
    let four := fun n : Nat => two (n / 65536) ++ two n
    let yes := fun x : Bool => one (if x then 1 else 0)
    let opt := fun (width : Nat) (field : Option (List Byte)) => match field with
      | some bytes => one 1 ++ bytes
      | none => List.replicate (width + 1) 0
    let counted := fun items : List (List Byte) => one items.length ++ items.flatten
    let operating := fun x : OpState => one (if x = .watching then 1 else 0)
    let state := fun x : RecState => match x with
      | .free => one 0
      | .opened _ => one 1
      | .grace => one 2
      | .wait => one 3
      | .judging => one 4
    let phase := fun x : RecState => match x with
      | .opened .fill => some (one 0)
      | .opened .vibe => some (one 1)
      | .opened .ring => some (one 2)
      | .opened .strip => some (one 3)
      | .opened .settle => some (one 4)
      | _ => none
    let cause := fun x : ResetCause => match x with
      | .power => one 0
      | .line => one 1
      | .restart => one 2
    let slot := fun x : Fin 16 => one x.val
    let point := fun x : Fin 24 => one x.val
    let band := fun x : Option BandProfile => match x with
      | some b => two b.loaded ++ two b.current ++ two b.tolerance
      | none => List.replicate 6 0
    let weight := fun (n : Nat) (x : Option BandProfile) => if x.isSome then n else 0
    let profile := fun p : Profile =>
      point p.watchPoint ++
      one (weight 1 p.bands.b1 + weight 2 p.bands.b2 + weight 4 p.bands.b3 + weight 8 p.bands.b4) ++
      band p.bands.b1 ++ band p.bands.b2 ++ band p.bands.b3 ++ band p.bands.b4 ++
      opt 1 (p.hitLimit.map one) ++ opt 2 (p.ringWindow.map fun w => one w.1 ++ one w.2) ++ one p.blindStreak
    let entry := fun e : SuspectEntry =>
      slot e.slot ++ point e.watchPoint ++ one (match e.state with | .suspect => 0 | .confirmed => 1) ++
      two e.firstCycle.toNat ++ counted (e.window.map fun x => one (match x with | .deviate => 2 | .clean => 3)) ++
      one e.lastDev.toNat ++ opt 2 (e.confirmedCycle.map fun n => two n.toNat)
    let result := fun e : SummaryEntry =>
      point e.watchPoint ++ one (match e.verdict with | .skip => 0 | .blind => 1 | .deviate => 2 | .clean => 3) ++
      two e.levels.b1 ++ two e.levels.b2 ++ two e.levels.b3 ++ two e.levels.b4 ++
      one e.hits ++ opt 1 (e.ringDown.map one) ++ one e.deviations.toNat ++ yes e.ringCut ++ one e.blind.toNat ++
      four e.counted ++ four e.missing ++
      one (match e.standing with | .notListed => 0 | .suspect => 1 | .confirmed => 2 | .listFull => 3)
    let record := fun r : RecReport => state r.state ++ opt 1 (phase r.state) ++ opt 2 (r.number.map fun n => two n.toNat)
    let link := fun l : LinkReport =>
      one (if l.signal = .lost then 1 else 0) ++ one (if l.rxFlow = .released then 1 else 0) ++
      one (if l.txFlow = .hold then 1 else 0)
    encOk body =
      match body with
      | .empty => []
      | .identity x =>
        [12, 246, 9, 112, 1, x.station] ++ one x.straps.sta.toNat ++ one (if x.straps.sigMode = .coded then 1 else 0) ++
        one x.straps.rate.toNat ++ one (2 ^ x.straps.rate.toNat) ++ cause x.cause
      | .status x =>
        operating x.operating ++
        (match x.load with
         | none => [0, 0, 0, 0]
         | some l => one (match l.kind with | .channels => 1 | .mould => 2) ++ opt 1 (l.slot.map slot) ++ one l.remaining) ++
        one (match x.mould.state with | .none => 0 | .unconfirmed => 1 | .confirmed _ => 2) ++ opt 1 (x.mould.slot.map slot) ++
        opt 1 (x.code.map slot) ++ opt 1 (x.clamp.map fun asserted => one (if asserted then 0 else 1)) ++
        (x.slots.toList.map yes).flatten ++ two x.conditions.flags.toNat ++ two x.conditions.enables.toNat ++
        record x.recA ++ record x.recB ++ one x.exam ++ one x.forward ++ one x.upward ++ one x.own ++ one x.nonReplies ++
        one x.inbox ++ one x.suspects ++ one x.trace.state.val ++ opt 1 (x.trace.channel.map one) ++
        (x.pods.toList.map fun p => yes p.1 ++ one (if p.2 = .silent then 1 else 0)).flatten ++ link x.linkU ++ link x.linkD
      | .control op a b => operating op ++ state a ++ state b
      | .restarted op x => operating op ++ cause x
      | .mould h judged page next =>
        four h.serial.toNat ++ yes h.autoEligible ++ one h.k ++ one h.n ++ one h.driftShift ++ two h.driftLimit ++
        one h.minVibe ++ one h.gapLimit ++ one h.w ++ four judged ++ counted (page.map profile) ++ opt 1 (next.map point)
      | .confirmed x serial => slot x ++ four serial.toNat
      | .suspects total page => one total ++ counted (page.map fun e => one e.1 ++ entry e.2)
      | .released e left wrote => entry e ++ one left ++ yes wrote
      | .cycle n x serial count page next =>
        two n.toNat ++ slot x ++ four serial.toNat ++ one count ++ counted (page.map result) ++ opt 1 (next.map point)
      | .cleared kept set => two kept.toNat ++ two set.toNat
      | .enables enables flags => two enables.toNat ++ two flags.toNat
      | .traced held channel index c =>
        one held ++ one channel ++ one index ++ one (c.pod.val + 1) ++ one c.channel.val ++ [c.cycleTag] ++
        one (match c.phase with | .vibe => 2 | .ring => 3 | .strip => 4) ++ [c.sequence] ++
        (c.samples.map fun x => two x.toNat).flatten

/-- The check value: the register starts with all bits set, and one byte is taken in bit by bit from the most significant one by
x^16 + x^12 + x^5 + 1. The part sends it after the header and payload it covers, most significant byte first, without inversion,
and a received frame passes just when the value over what came before its last two bytes is those two bytes; a frame followed by
its own value leaves the register at zero (R134). -/
def Obligations.CrcIsTheStatedOne : Prop :=
  crc [] = 0xFFFF#16 ∧
  (∀ bytes b, crc (bytes ++ [b]) =
    ([7, 6, 5, 4, 3, 2, 1, 0] : List Nat).foldl
      (fun (r : Half) i => if r.getLsbD 15 != b.getLsbD i then (r <<< 1) ^^^ 0x1021#16 else r <<< 1) (crc bytes)) ∧
  (∀ (kind dest source : Byte) (payload : List Byte),
    let covered := [kind, dest, source, BitVec.ofNat 8 payload.length] ++ payload
    wrapFrame kind dest source payload =
      covered ++ [(crc covered).extractLsb' 8 8, (crc covered).extractLsb' 0 8]) ∧
  (∀ (covered : List Byte) (high low : Byte), 4 ≤ covered.length → (covered.getD 3 0).toNat ≤ 240 →
    covered.length = 4 + (covered.getD 3 0).toNat →
    (goodFrame (covered ++ [high, low]) = true ↔ crc covered = high ++ low)) ∧
  ∀ bytes, crc (bytes ++ enc16 (crc bytes).toNat) = 0

/-! ### The cycle tracker -/

/-- An OPEN Mark (R5, R6, R29): an OPEN record is abandoned with MARK ORDER; an UNCONFIRMED mould is confirmed when the setup and
its LOADED slot allow it; record A, or else B, opens in FILL if it is FREE now, with the installed slot, one accumulator a
profile and the cycle timer; with no FREE record the number becomes the untracked number with QUEUE OVERRUN.

A new accumulator is mapped to the first channel entry of its watch point, with its pod, or to none where the table has no such
entry; it has counted nothing, heard nothing, and waits for its ring-down (R29). -/
def Obligations.OpenMarkOpensARecord : Prop :=
  ∀ (s : State) (n : Half), RecordLaw s →
    let t := s.takeMark .opening n
    let usable := fun r : CycleRecord => r.state = .free ∨ r.isOpen = true
    let left := fun r : CycleRecord => if r.isOpen = true then CycleRecord.freed r.number else r
    let fresh := fun p : Profile =>
      ({ watchPoint := p.watchPoint
         mapping := s.mappingOf p.watchPoint
         vibe := { counted := 0, missing := 0, last := none, heard := [] }
         ring := { state := .waiting, count := 0, last := none }
         strip := { hits := 0, carry := 0, last := none } } : Accumulator)
    let opened : CycleRecord :=
      { state := .opened .fill
        number := some n
        slot := t.installed
        entered := ⟨false, false, false, false⟩
        silenced := 0
        accs := match t.installed with
          | none => []
          | some slot => ((s.mould slot).map fun m => m.profiles.map fresh).getD []
        cycleTimer := s.tables.setup.map fun su => su.cycleLimit * 100
        graceTimer := none }
    let confirms := fun code clamp => s.monitor.state = .unconfirmed ∧ s.monitor.code.debounced = some code ∧
      s.monitor.clamp.debounced = some clamp ∧ (∃ su, s.tables.setup = some su ∧ su.autoConfirm = true) ∧
      ∃ m, s.mould code = some m ∧ m.header.autoEligible = true
    (∀ wp, (∀ e ∈ s.tables.channels, e.watchPoint ≠ wp) → s.mappingOf wp = none) ∧
    (∀ (wp : Fin 24) (i : Nat) (e : ChannelEntry), s.tables.channels[i]? = some e → e.watchPoint = wp →
      (∀ (k : Nat) (d : ChannelEntry), k < i → s.tables.channels[k]? = some d → d.watchPoint ≠ wp) →
      s.mappingOf wp = some { entry := i, pod := e.pod }) ∧
    t = { s with tracker := t.tracker, cond := t.cond, monitor := t.monitor } ∧
    t.tracker.unsync = false ∧ t.tracker.lastClosed = s.tracker.lastClosed ∧
    (∀ code clamp, confirms code clamp →
      t.monitor = { s.monitor with state := .confirmed { code := code, clamp := clamp } }) ∧
    ((∀ code clamp, ¬confirms code clamp) → t.monitor = s.monitor) ∧
    (usable s.tracker.a → t.tracker.a = opened ∧ t.tracker.b = left s.tracker.b ∧ t.tracker.untracked = none) ∧
    (¬usable s.tracker.a → usable s.tracker.b →
      t.tracker.b = opened ∧ t.tracker.a = s.tracker.a ∧ t.tracker.untracked = none) ∧
    (¬usable s.tracker.a → ¬usable s.tracker.b →
      t.tracker.a = s.tracker.a ∧ t.tracker.b = s.tracker.b ∧ t.tracker.untracked = some n) ∧
    t.cond.enables = s.cond.enables ∧
    ∀ c : Condition, c.isIn t.cond.flags = true ↔
      c.isIn s.cond.flags = true ∨ (c = .markOrder ∧ (s.tracker.a.isOpen = true ∨ s.tracker.b.isOpen = true)) ∨
      (c = .queueOverrun ∧ ¬usable s.tracker.a ∧ ¬usable s.tracker.b)

/-- A non-OPEN Mark that matches an OPEN record: the phase Marks move it by the table of R7 (re-vibration by R31; by R147 the
present pods that are SILENT are silenced in it), ABORT abandons it, and every other Mark but CLOSE in SETTLE abandons it with MARK
ORDER (R7, R9, R10). CLOSE in SETTLE sends it to GRACE and starts its grace timer; a close grace of 0 expires in the same step,
by the table of R13 (R8; log 5, where a setup absent in WATCHING reads as 0 by log 18). The record that took CLOSE last is the
model's own (log 4).

A non-OPEN Mark that matches no OPEN record changes nothing but the MARK ORDER flag, which it sets just when its number is
not known to the tracker and the unsynchronised indication is clear (R4, R11). -/
def Obligations.OtherMarksMoveOrRaise : Prop :=
  (∀ (s : State) (kind : MarkKind) (n : Half) (i : RecId) (phase : Phase), RecordLaw s → kind ≠ .opening →
       (s.tracker.get i).state = .opened phase → (s.tracker.get i).number = some n →
       let r := s.tracker.get i
       let t := s.takeMark kind n
       let entering := fun new : Phase =>
         { s with
           tracker := s.tracker.put i
             { r with
               state := .opened new
               entered :=
                 { vibe := r.entered.vibe || new == .vibe, ring := r.entered.ring || new == .ring
                   strip := r.entered.strip || new == .strip, settle := r.entered.settle || new == .settle }
               silenced := if new = .settle then r.silenced else r.silenced ||| s.silentPods
               accs :=
                 if phase = .ring ∧ new = .vibe then
                   r.accs.map fun x =>
                     { x with
                       vibe := { x.vibe with last := none }
                       ring := { state := .waiting, count := 0, last := none } }
                 else r.accs } }
       let abandoned := { s with tracker := s.tracker.put i (CycleRecord.freed r.number) }
       match kind, phase with
       | .vibeOn, .fill => t = entering .vibe
       | .vibeOn, .ring => t = entering .vibe
       | .vibeOff, .vibe => t = entering .ring
       | .stripStart, .ring => t = entering .strip
       | .stripEnd, .strip => t = entering .settle
       | .close, .settle =>
         let grace := (s.tables.setup.map Setup.closeGrace).getD 0
         let closed := fun x : CycleRecord =>
           { s with tracker := { s.tracker.put i x with lastClosed := some i } }
         (0 < grace → t = closed { r with state := .grace, cycleTimer := none, graceTimer := some grace }) ∧
         (grace = 0 → r.slot = none → t = closed (CycleRecord.freed r.number)) ∧
         ∀ slot m, grace = 0 → r.slot = some slot → s.mould slot = some m →
           ((s.tracker.get i.other).state = .judging →
             t = closed { r with state := .wait, cycleTimer := none, graceTimer := none }) ∧
           ((s.tracker.get i.other).state ≠ .judging →
             t =
               { closed { r with state := .judging, cycleTimer := none, graceTimer := none } with
                 verdict := { s.verdict with judging := some { record := i, mould := m } } })
       | .abort, _ => t = abandoned
       | _, _ => t = abandoned.raise .markOrder) ∧
  (∀ (s : State) (kind : MarkKind) (n : Half), kind ≠ .opening →
       (∀ i, ¬((s.tracker.get i).isOpen = true ∧ (s.tracker.get i).number = some n)) →
       s.takeMark kind n =
         if s.tracker.a.number = some n ∨ s.tracker.b.number = some n ∨ s.tracker.untracked = some n ∨
             s.tracker.unsync = true then s
         else s.raise .markOrder) ∧
  ∀ (s : State) (p : PodId), s.silentPods.getLsbD p.val = true ↔ s.podPresent p = true ∧ s.pods[p].state = .silent

/-! ### Timers -/

/-- CYCLE_TIMER_EXPIRY abandons the OPEN record with CYCLE TIMEOUT; STALL_TIMER_EXPIRY raises DOWNSTREAM STALL, whose cause then
holds; LOAD_TIMER_EXPIRY discards the open load with LOAD TIMEOUT; the expiry of a stopped timer does not occur (R12, R15, R143,
R182; log 2).

SILENCE_TIMER_EXPIRY in WATCHING: the pod is SILENT with its timer stopped, POD SILENT is raised, and the pod joins the
silenced pods of the record that is OPEN in VIBE, RING or STRIP, and of no other; for a timer that is stopped or suspended, for a
pod that is not present, and in HALTED, the expiry does not occur (R146, R147, R148; log 2). -/
def Obligations.TimerExpiriesTakeEffect : Prop :=
  (∀ s : State,
       (∀ i, (s.tracker.get i).isOpen = true → (s.tracker.get i).cycleTimer.isSome = true →
         exec (.cycleTimerExpiry i) s =
           .next (State.settle s
             ({ s with tracker := s.tracker.put i (CycleRecord.freed (s.tracker.get i).number) }.raise .cycleTimeout))) ∧
       (s.stall.timer.isSome = true →
         exec .stallTimerExpiry s =
           .next (State.settle s ({ s with stall := { timer := none, stalled := true } }.raise .downstreamStall))) ∧
       (s.engine.load.isSome = true →
         exec .loadTimerExpiry s =
           .next (State.settle s ({ s with engine := { s.engine with load := none } }.raise .loadTimeout))) ∧
       (∀ i, (s.tracker.get i).cycleTimer = none → exec (.cycleTimerExpiry i) s = .next s) ∧
       (s.stall.timer = none → exec .stallTimerExpiry s = .next s) ∧
       (s.engine.load = none → exec .loadTimerExpiry s = .next s)) ∧
  (∀ (s : State) (p : PodId) (ms : Nat), RecordLaw s → s.engine.operating = .watching → s.podPresent p = true →
       s.pods[p].timer = .running ms →
       let joined := fun r : CycleRecord =>
         if r.state = .opened .vibe ∨ r.state = .opened .ring ∨ r.state = .opened .strip then
           { r with silenced := r.silenced ||| BitVec.twoPow 8 p.val }
         else r
       exec (.silenceTimerExpiry p) s =
         .next (State.settle s
           ({ s with
              pods := s.pods.set p.val { state := .silent, timer := .stopped } p.isLt
              tracker := { s.tracker with a := joined s.tracker.a, b := joined s.tracker.b } }.raise .podSilent))) ∧
  ∀ (s : State) (p : PodId),
    s.engine.operating = .halted ∨ s.podPresent p = false ∨ (∀ ms, s.pods[p].timer ≠ .running ms) →
    exec (.silenceTimerExpiry p) s = .next s

/-- GRACE_EXPIRY by the table of R13: an unmoulded record goes FREE, a moulded one to WAIT while the other is JUDGING and to
JUDGING otherwise, where the verdict unit takes its mould record as it stands (R13, R62, R72; log 21). The expiry of a record that
is not in GRACE does not occur, nor, of two records in GRACE, that of the one that took CLOSE last (R13; log 2, log 4). -/
def Obligations.GraceExpiryByTheTable : Prop :=
  (∀ (s : State) (i : RecId),
    (s.tracker.get i).state ≠ .grace ∨ (s.tracker.get i).graceTimer = none ∨
      ((s.tracker.get i.other).state = .grace ∧ s.tracker.lastClosed = some i) →
    exec (.graceExpiry i) s = .next s) ∧
  ∀ (s : State) (i : RecId) (ms : Nat), (s.tracker.get i).state = .grace → (s.tracker.get i).graceTimer = some ms →
    ¬((s.tracker.get i.other).state = .grace ∧ s.tracker.lastClosed = some i) →
    let r := s.tracker.get i
    (r.slot = none →
      exec (.graceExpiry i) s =
        .next (State.settle s { s with tracker := s.tracker.put i (CycleRecord.freed r.number) })) ∧
    (∀ slot m, r.slot = some slot → s.mould slot = some m →
      ((s.tracker.get i.other).state = .judging →
        exec (.graceExpiry i) s =
          .next (State.settle s { s with tracker := s.tracker.put i { r with state := .wait, graceTimer := none } })) ∧
      ((s.tracker.get i.other).state ≠ .judging →
        exec (.graceExpiry i) s =
          .next (State.settle s
            { s with
              tracker := s.tracker.put i { r with state := .judging, graceTimer := none }
              verdict := { s.verdict with judging := some { record := i, mould := m } } })))

/-! ### The mould monitor -/

/-- RAW_VALUE_CHANGE by the table of R42: a value that differs from the debounced one is timed for 50 ms afresh, and a return to
the debounced value ends the period; in a first period, with no debounced value, only the former (R42, R43).

DEBOUNCE_TIMER_EXPIRY: the debounced value takes the candidate, and the mould state follows by the table of R45; a mould that
leaves CONFIRMED raises MOULD CHANGED, and a moulded OPEN record is abandoned (R17, R42, R43, R45, R46). -/
def Obligations.IdentityInputsAreDebounced : Prop :=
  (∀ s : State,
       (∀ x : Fin 16, x ≠ s.monitor.code.raw →
         exec (.rawValueChange (.code x)) s =
           .next (State.settle s
             { s with
               monitor :=
                 { s.monitor with
                   code :=
                     { s.monitor.code with
                       raw := x
                       candidate := if s.monitor.code.debounced = some x then none else some x
                       timer := if s.monitor.code.debounced = some x then none else some 50 } } })) ∧
       (∀ x : Bool, x ≠ s.monitor.clamp.raw →
         exec (.rawValueChange (.clamp x)) s =
           .next (State.settle s
             { s with
               monitor :=
                 { s.monitor with
                   clamp :=
                     { s.monitor.clamp with
                       raw := x
                       candidate := if s.monitor.clamp.debounced = some x then none else some x
                       timer := if s.monitor.clamp.debounced = some x then none else some 50 } } }))) ∧
  (∀ (s : State) (x : Input), s.debouncing x = true →
       let m : Monitor :=
         match x with
         | .code =>
           { s.monitor with
             code := { s.monitor.code with debounced := s.monitor.code.candidate, candidate := none, timer := none } }
         | .clamp =>
           { s.monitor with
             clamp := { s.monitor.clamp with debounced := s.monitor.clamp.candidate, candidate := none, timer := none } }
       let asserted := m.clamp.debounced = some true
       let dropped := fun r : CycleRecord =>
         if r.isOpen = true ∧ r.slot.isSome = true then CycleRecord.freed r.number else r
       RecordLaw s → MonitorLaw s →
       match s.monitor.state with
       | .none =>
         exec (.debounceTimerExpiry x) s =
           .next (State.settle s
             { s with
               monitor :=
                 { m with state := if asserted ∧ m.code.debounced.isSome = true then .unconfirmed else .none } })
       | .unconfirmed =>
         exec (.debounceTimerExpiry x) s =
           .next (State.settle s { s with monitor := { m with state := if asserted then .unconfirmed else .none } })
       | .confirmed _ =>
         exec (.debounceTimerExpiry x) s =
           .next (State.settle s
             ({ s with
                monitor := { m with state := match x with | .code => .unconfirmed | .clamp => .none }
                tracker := { s.tracker with a := dropped s.tracker.a, b := dropped s.tracker.b } }.raise .mouldChanged)))

/-! ### The feature engine -/

/-- EXAMINE_BLOCK: the head copy leaves the queue; a RUNNING trace of its entry takes it, dropping its oldest block beyond 64; the
one record whose cycle, state and phases fit takes it, unless it is a RING block of a record in VIBE; two that fit, or none,
leave the records alone (R26, R28, R186). -/
def Obligations.ExaminedBlocksAreTracedAndAttributed : Prop :=
  ∀ (s : State) (c : Copy) (rest : List Copy), s.exam = c :: rest →
    let fits := fun r : CycleRecord =>
      (∃ n, r.number = some n ∧ n.setWidth 8 = c.cycleTag) ∧
      (r.state = .grace ∨ (r.isOpen = true ∧
        (match c.phase with
         | .vibe => r.entered.vibe
         | .ring => r.entered.ring
         | .strip => r.entered.strip) = true))
    let v :=
      { s with
        exam := rest
        trace :=
          match s.trace with
          | .running ch ring =>
            if c.entry = ch then .running ch ((if ring.length < 64 then ring else ring.drop 1) ++ [c])
            else .running ch ring
          | x => x }
    (∀ i e, fits (s.tracker.get i) → ¬fits (s.tracker.get i.other) → s.tables.channels[c.entry]? = some e →
      let r := s.tracker.get i
      exec .examineBlock s =
        .next (State.settle s
          (if c.phase = .ring ∧ r.state = .opened .vibe then v
           else
             { v with
               tracker :=
                 s.tracker.put i
                   { r with
                     accs :=
                       r.accs.map fun x =>
                         if (∃ m, x.mapping = some m ∧ m.entry = c.entry) then
                           x.block e s.tables.bandSets[e.bandSet] c
                         else x } }))) ∧
    ((fits s.tracker.a ↔ fits s.tracker.b) → exec .examineBlock s = .next (State.settle s v))

/-- The sequence check: the first block of a part is the base; a forward difference of 1 to 128 is accepted with the blocks
between counted as missing; 0 and 129 to 255 are ignored, and an ignored block changes no field of its part (R30). -/
def Obligations.SequenceCheckByForwardDifference : Prop :=
  (∀ q, missingBefore none q = some 0) ∧
  (∀ l q : Byte,
    let d := (q.toNat + 256 - l.toNat) % 256
    (1 ≤ d ∧ d ≤ 128 → missingBefore (some l) q = some (d - 1)) ∧
    (d = 0 ∨ 129 ≤ d → missingBefore (some l) q = none)) ∧
  ∀ (x : Accumulator) (e : ChannelEntry) (bands : Option BandSet) (c : Copy),
    let last := match c.phase with
      | .vibe => x.vibe.last
      | .ring => x.ring.last
      | .strip => x.strip.last
    let y := x.block e bands c
    y.watchPoint = x.watchPoint ∧ y.mapping = x.mapping ∧
    (c.phase ≠ .vibe → y.vibe = x.vibe) ∧ (c.phase ≠ .ring → y.ring = x.ring) ∧ (c.phase ≠ .strip → y.strip = x.strip) ∧
    (missingBefore last c.sequence = none → y = x) ∧
    (missingBefore last c.sequence ≠ none →
      (match c.phase with
       | .vibe => y.vibe.last
       | .ring => y.ring.last
       | .strip => y.strip.last) = some c.sequence)

/-- A block reaches the part of its phase, and no other: a VIBE block with the band set in force, a RING block with the decay
threshold of its channel entry, a STRIP block with the entry's hit threshold and dead span (R28, R32, R34, R37).

An accepted VIBE block is counted, its missing blocks are added, and its samples are heard by the four filters of the band set
in force, after the blocks before; an accepted RING block moves the ring state by the table (R32, R34, R35).

The strip scan: a sample under the carry lowers it by 1; else a magnitude above the threshold starts a hit, which counts up to
255 and sets the carry to the dead span less 1; missing blocks lower the carry by 32 each, not below 0, before the scan (R37,
R38). -/
def Obligations.BlocksAreAppliedToTheirPart : Prop :=
  (∀ (x : Accumulator) (e : ChannelEntry) (bands : Option BandSet) (c : Copy),
    x.block e bands c =
      match c.phase with
      | .vibe => { x with vibe := x.vibe.block bands c }
      | .ring => { x with ring := x.ring.block e.decayThreshold c }
      | .strip => { x with strip := x.strip.block e.hitThreshold e.deadSpan c }) ∧
  ((∀ (v : VibePart) (bands : BandSet) (c : Copy) (missing : Nat), missingBefore v.last c.sequence = some missing →
       v.block (some bands) c =
         { counted := v.counted + 1, missing := v.missing + missing, last := some c.sequence,
           heard := v.heard ++ [{ bands := bands, samples := c.samples }] }) ∧
     ∀ (r : RingPart) (threshold : Nat) (c : Copy) (missing : Nat), missingBefore r.last c.sequence = some missing →
       let quiet := exactLevel ((sumSquares c.samples : ℝ) / 32) < threshold
       let y := r.block threshold c
       y.last = some c.sequence ∧
       (r.state = .waiting → quiet → y.state = .ended ∧ y.count = 0) ∧
       (r.state = .waiting → ¬quiet → y.state = .counting ∧ y.count = 1) ∧
       (r.state = .counting → missing ≠ 0 → y.state = .gap ∧ y.count = r.count) ∧
       (r.state = .counting → missing = 0 → quiet → y.state = .ended ∧ y.count = r.count) ∧
       (r.state = .counting → missing = 0 → ¬quiet → r.count < 254 → y.state = .counting ∧ y.count = r.count + 1) ∧
       (r.state = .counting → missing = 0 → ¬quiet → r.count = 254 → y.state = .ended ∧ y.count = 255) ∧
       (r.state = .ended ∨ r.state = .gap → y.state = r.state ∧ y.count = r.count)) ∧
  ((∀ (threshold span hits carry : Nat) (x : Sample) (xs : List Sample),
       scan threshold span [] hits carry = (hits, carry) ∧
       (0 < carry → scan threshold span (x :: xs) hits carry = scan threshold span xs hits (carry - 1)) ∧
       (carry = 0 → threshold < x.toInt.natAbs →
         scan threshold span (x :: xs) hits carry = scan threshold span xs (min 255 (hits + 1)) (span - 1)) ∧
       (carry = 0 → x.toInt.natAbs ≤ threshold →
         scan threshold span (x :: xs) hits carry = scan threshold span xs hits 0)) ∧
     (∀ (y : StripPart) (threshold span : Nat) (c : Copy) (missing : Nat), missingBefore y.last c.sequence = some missing →
       let m := scan threshold span c.samples y.hits (y.carry - 32 * missing)
       y.block threshold span c = { hits := m.1, carry := m.2, last := some c.sequence }) ∧
     ∀ threshold span samples hits carry, hits ≤ 255 → (scan threshold span samples hits carry).1 ≤ 255)

/-- A level of a rational mean square is 160 times its base-ten logarithm, rounded with a half upward and clamped into 0-2047; it
is so for the broadband level of a block (R33, R34). -/
def Obligations.LevelsAreRoundedLogarithms : Prop :=
  (∀ num den : Nat, 0 < den → levelOf num den = exactLevel ((num : ℝ) / den)) ∧
  ∀ samples : List Sample,
    broadbandLevel samples = exactLevel (((samples.map fun x => (x.toInt : ℝ) ^ 2).sum) / 32)

/-- The bounds the model computes for a band's energy sum, at whatever precision, enclose the sum that the filter equation gives
in exact arithmetic, for bands in the range of R22 (R23, R32; the enclosure is the model's own, log 12). -/
def Obligations.BandEnergyIsEnclosed : Prop :=
  ∀ (p : Nat) (h : BandHistory) (e : Span), BandsInRange h → bandEnergy p h = some e →
    (e.lo : ℝ) / 2 ^ p ≤ exactEnergy h ∧ exactEnergy h ≤ (e.hi : ℝ) / 2 ^ p

/-- A band level is 0 with no VIBE block counted and never leaves 0-2047. Otherwise the bounds of the energy sum are drawn closer,
at the first precision doubled up to 40 times: where at one of these they round to one level, that is the level of the exact mean
square (R33; the bounds are the model's own, log 12, and what it answers where they differ to the last, log 13). -/
def Obligations.BandLevelIsExact : Prop :=
  ∀ (counted : Nat) (h : BandHistory),
    bandLevel 0 h = 0 ∧ bandLevel counted h ≤ 2047 ∧
    (∀ p e, bandEnergy p h = some e →
      levelBounds p counted h =
        some (levelOf e.lo.toNat (2 ^ p * (32 * counted)), levelOf e.hi.toNat (2 ^ p * (32 * counted)))) ∧
    ∀ n l, 0 < counted → BandsInRange h → n ≤ 40 → levelBounds (2 ^ n * precision h) counted h = some (l, l) →
      (∀ k, k < n → (levelBounds (2 ^ k * precision h) counted h).isSome = true) →
      bandLevel counted h = exactLevel (exactEnergy h / (32 * counted))

/-! ### Judgement -/

/-- The results of a judgement are one a profile, in the order of the profiles, which is ascending by watch point (R75).

The four verdicts. With no mapping a profile is SKIP; else with a silenced pod, too few VIBE blocks or too many missing it is
BLIND, with those causes; else it is DEVIATE with a non-empty deviation set or CLEAN with an empty one; a masked band's level is that of the blocks the record
counted, with the samples and that band of the band set of each accepted block (R33, R75, R76, R80, R88).

A masked band deviates just when its level is farther from the current baseline than the tolerance, either way, and a band
outside the mask never does (R77). -/
def Obligations.VerdictsByCausesAndDeviations : Prop :=
  (∀ (r : CycleRecord) (m : MouldRecord),
       (judgeAll r m).length = m.profiles.length ∧
       ∀ (i : Nat) (p : Profile), m.profiles[i]? = some p → (judgeAll r m)[i]? = some (judgeProfile r m.header p)) ∧
  (∀ (r : CycleRecord) (h : MouldHeader) (p : Profile) (x : Accumulator),
       (r.accs.find? fun y => y.watchPoint == p.watchPoint) = some x →
       let y := judgeProfile r h p
       y.watchPoint = p.watchPoint ∧
       (x.mapping = none →
         y = { watchPoint := p.watchPoint, verdict := .skip, levels := ⟨0, 0, 0, 0⟩, hits := 0, ringDown := none,
               deviations := 0, ringCut := false, blind := 0, counted := 0, missing := 0, standing := .notListed }) ∧
       ∀ m, x.mapping = some m →
         y = mappedResult r.silenced h p m x ∧
         let silent := r.silenced.getLsbD m.pod.val = true
         let few := x.vibe.counted < h.minVibe
         let gaps := h.gapLimit < x.vibe.missing
         let dev := deviationsOf p y.levels x.strip.hits x.ring.ringDown
         let level := fun (place : Option BandProfile) (sel : BandSet → Band) =>
           if place.isSome then bandLevel x.vibe.counted (x.vibe.heard.map fun b => (sel b.bands, b.samples)) else 0
         (y.blind.getLsbD 0 = true ↔ silent) ∧ (y.blind.getLsbD 1 = true ↔ few) ∧ (y.blind.getLsbD 2 = true ↔ gaps) ∧
         y.hits = x.strip.hits ∧ y.counted = x.vibe.counted ∧ y.missing = x.vibe.missing ∧
         y.ringDown = (if x.ring.state = .ended then some x.ring.count else none) ∧
         y.levels =
           ⟨level p.bands.b1 Four.b1, level p.bands.b2 Four.b2, level p.bands.b3 Four.b3, level p.bands.b4 Four.b4⟩ ∧
         (silent ∨ few ∨ gaps → y.verdict = .blind ∧ y.deviations = 0 ∧ y.ringCut = false) ∧
         (¬(silent ∨ few ∨ gaps) →
           y.verdict = (if dev = 0 then .clean else .deviate) ∧ y.deviations = dev ∧
           y.ringCut = (p.ringWindow.isSome && y.ringDown.isNone))) ∧
  (∀ (p : Profile) (levels : Four Nat) (hits : Nat) (ringDown : Option Nat) (k : Fin 4),
       let dev := deviationsOf p levels hits ringDown
       let place := match k with
         | 0 => p.bands.b1
         | 1 => p.bands.b2
         | 2 => p.bands.b3
         | 3 => p.bands.b4
       let level := match k with
         | 0 => levels.b1
         | 1 => levels.b2
         | 2 => levels.b3
         | 3 => levels.b4
       dev.getLsbD k.val = true ↔
         ∃ b, place = some b ∧ (b.current + b.tolerance < level ∨ level + b.tolerance < b.current))

/-- The hits of a mapped profile that reaches comparison deviate just when the profile holds a hit limit and the count is greater; a
count equal to the limit does not, a count of 255 always does against a limit of up to 254, a limit of 0 makes every hit a
deviation; the count is reported for every mapped profile, with a limit or without, and saturates at 255 (R78). -/
def Obligations.HitsDeviateAboveTheLimit : Prop :=
  (∀ (silenced : BitVec 8) (h : MouldHeader) (p : Profile) (m : Mapping) (x : Accumulator),
    let y := mappedResult silenced h p m x
    let deviate := y.deviations.getLsbD 4 = true
    y.hits = x.strip.hits ∧
    (y.verdict ≠ .blind →
      (∀ l, p.hitLimit = some l → (deviate ↔ l < x.strip.hits)) ∧
      (p.hitLimit = some x.strip.hits → ¬deviate) ∧
      (∀ l, p.hitLimit = some l → l ≤ 254 → x.strip.hits = 255 → deviate) ∧
      (p.hitLimit = some 0 → 0 < x.strip.hits → deviate) ∧
      (p.hitLimit = none → ¬deviate))) ∧
  ∀ (x : StripPart) (threshold span : Nat) (c : Copy), x.hits ≤ 255 → (x.block threshold span c).hits ≤ 255

/-- The ring-down of a mapped profile that reaches comparison, against the window: a count outside lo-hi deviates, one inside does
not, so 255 does not against a window whose hi is 255, and CUT is not compared; the ring-cut marker is set just on a compared
profile with a window and a CUT ring-down (R79). -/
def Obligations.RingDownAgainstItsWindow : Prop :=
  ∀ (silenced : BitVec 8) (h : MouldHeader) (p : Profile) (m : Mapping) (x : Accumulator),
    let y := mappedResult silenced h p m x
    let deviate := y.deviations.getLsbD 5 = true
    y.ringDown = x.ring.ringDown ∧
    (y.verdict ≠ .blind →
      (∀ lo hi n, p.ringWindow = some (lo, hi) → x.ring.ringDown = some n → (deviate ↔ n < lo ∨ hi < n)) ∧
      (∀ lo, p.ringWindow = some (lo, 255) → lo ≤ 255 → x.ring.ringDown = some 255 → ¬deviate) ∧
      (x.ring.ringDown = none → ¬deviate) ∧
      (p.ringWindow = none → ¬deviate)) ∧
    (y.ringCut = true ↔ y.verdict ≠ .blind ∧ p.ringWindow.isSome = true ∧ x.ring.ringDown = none) ∧
    (y.verdict ≠ .blind → y.verdict = .clean ∨ y.verdict = .deviate)

/-- The suspect list under one result: a DEVIATE adds an entry, moves a SUSPECT entry's window, confirms at K, or finds the list
full; a CLEAN moves the window and retires; a CONFIRMED entry's window is frozen; BLIND and SKIP change nothing (R95 to R100,
R102).

The results of a judgement reach the list one after the other, in their order (R95, R103). The suspect state after judgement by
the table of R83: the entry's state; else LIST FULL for a DEVIATE that found no entry and no room; else NOT LISTED. -/
def Obligations.ResultsReachTheSuspectList : Prop :=
  (∀ (list : List SuspectEntry) (h : MouldHeader) (slot : Fin 16) (cycle : Half) (xs : List SummaryEntry) (x : SummaryEntry),
    listRun list h slot cycle [] = { list := list, added := [], confirmed := [], full := [] } ∧
    listRun list h slot cycle (xs ++ [x]) = (listRun list h slot cycle xs).take h slot cycle x) ∧
  (∀ (u : ListRun) (slot : Fin 16) (wp : Fin 24),
    let held := u.list.find? fun e => e.slot == slot && e.watchPoint == wp
    entryFor u.list slot wp = held ∧
    (∀ e, held = some e → e.state = .suspect → standingOf u slot wp = .suspect) ∧
    (∀ e, held = some e → e.state = .confirmed → standingOf u slot wp = .confirmed) ∧
    (held = none → wp ∈ u.full → standingOf u slot wp = .listFull) ∧
    (held = none → wp ∉ u.full → standingOf u slot wp = .notListed)) ∧
  ∀ (u : ListRun) (h : MouldHeader) (slot : Fin 16) (cycle : Half) (x : SummaryEntry),
    let t := u.take h slot cycle x
    let wp := x.watchPoint
    let put := fun (e : SuspectEntry) => u.list.map fun d => if d.slot = slot ∧ d.watchPoint = wp then e else d
    let push := fun (w : List Judged) (y : Judged) => (if w.length < h.n then w else w.drop 1) ++ [y]
    let count := fun (w : List Judged) => w.countP (· == .deviate)
    (x.verdict = .blind ∨ x.verdict = .skip → t = u) ∧
    (entryFor u.list slot wp = none → x.verdict = .clean → t = u) ∧
    (entryFor u.list slot wp = none → x.verdict = .deviate → 32 ≤ u.list.length →
      t = { u with full := u.full ++ [wp] }) ∧
    (entryFor u.list slot wp = none → x.verdict = .deviate → u.list.length < 32 →
      let e : SuspectEntry :=
        { slot := slot, watchPoint := wp, state := if h.k = 1 then .confirmed else .suspect, firstCycle := cycle,
          window := [.deviate], lastDev := x.deviations, confirmedCycle := if h.k = 1 then some cycle else none }
      t = { u with
            list := u.list ++ [e]
            added := u.added ++ [wp]
            confirmed := if h.k = 1 then u.confirmed ++ [wp] else u.confirmed }) ∧
    ∀ e, entryFor u.list slot wp = some e →
      (u.list.Pairwise fun d d' => ¬(d.slot = d'.slot ∧ d.watchPoint = d'.watchPoint)) →
      (e.state = .confirmed → x.verdict = .clean → t = u) ∧
      (e.state = .confirmed → x.verdict = .deviate → t = { u with list := put { e with lastDev := x.deviations } }) ∧
      (e.state = .suspect → x.verdict = .deviate →
        let w := push e.window .deviate
        (count w = h.k →
          t = { u with
                list := put { e with state := .confirmed, window := w, lastDev := x.deviations, confirmedCycle := some cycle }
                confirmed := u.confirmed ++ [wp] }) ∧
        (count w ≠ h.k → t = { u with list := put { e with window := w, lastDev := x.deviations } })) ∧
      (e.state = .suspect → x.verdict = .clean →
        let w := push e.window .clean
        (w.length = h.n ∧ count w = 0 →
          t = { u with list := u.list.filter fun d => ¬(d.slot = slot ∧ d.watchPoint = wp) }) ∧
        (¬(w.length = h.n ∧ count w = 0) → t = { u with list := put { e with window := w } }))

/-- A profile after a completion: the blind streak by its verdict, and for a CLEAN result with no entry in the list as the
completion found it and a drift shift above 0, each masked baseline moved by the difference over 2^s, rounded toward zero, and
clamped; every other baseline stays. The clamp acts on a profile, which is the cause of DRIFT LIMIT, just when it drifts and some
masked band's unclamped value lies outside its interval (R58, R60, R61, R82). -/
def Obligations.DriftAndStreakFollowTheVerdict : Prop :=
  ∀ (list : List SuspectEntry) (h : MouldHeader) (slot : Fin 16) (xs : List SummaryEntry) (p : Profile) (x : SummaryEntry),
    resultFor xs p = some x → ProfileOk h.driftLimit p →
    let q := profileAfter list h slot xs p
    let drifts := x.verdict = .clean ∧ (∀ e ∈ list, ¬(e.slot = slot ∧ e.watchPoint = x.watchPoint)) ∧ 0 < h.driftShift
    let target := fun (b : BandProfile) (level : Nat) =>
      (b.current : Int) + Int.tdiv ((level : Int) - b.current) (2 ^ h.driftShift)
    let low := fun b : BandProfile => max (0 : Int) ((b.loaded : Int) - h.driftLimit)
    let high := fun b : BandProfile => min (2047 : Int) ((b.loaded : Int) + h.driftLimit)
    let moved := fun (place : Option BandProfile) (level : Nat) =>
      place.map fun b =>
        { b with
          current :=
            (if target b level < low b then low b else if high b < target b level then high b else target b level).toNat }
    let acts := fun (place : Option BandProfile) (level : Nat) =>
      ∃ b, place = some b ∧ (target b level < low b ∨ high b < target b level)
    q = { p with bands := q.bands, blindStreak := q.blindStreak } ∧
    (drifts → q.bands =
      ⟨moved p.bands.b1 x.levels.b1, moved p.bands.b2 x.levels.b2, moved p.bands.b3 x.levels.b3,
       moved p.bands.b4 x.levels.b4⟩) ∧
    (¬drifts → q.bands = p.bands) ∧
    (driftLimited list h slot xs p = true ↔
      drifts ∧ (acts p.bands.b1 x.levels.b1 ∨ acts p.bands.b2 x.levels.b2 ∨ acts p.bands.b3 x.levels.b3 ∨
        acts p.bands.b4 x.levels.b4)) ∧
    (x.verdict = .blind → q.blindStreak = min 15 (p.blindStreak + 1)) ∧
    (x.verdict = .clean ∨ x.verdict = .deviate → q.blindStreak = 0) ∧
    (x.verdict = .skip → q.blindStreak = p.blindStreak)

/-- Which completions queue a Finding and what it lists, in the order of the results: with report every cycle every completion and
every result; without, only when some result is DEVIATE or BLIND, and those (R85). -/
def Obligations.FindingListsWhatTheSetupAsks : Prop :=
  ∀ xs : List SummaryEntry,
    let reported := fun x : SummaryEntry => decide (x.verdict = .deviate ∨ x.verdict = .blind)
    let result := fun x : SummaryEntry =>
      ({ watchPoint := x.watchPoint, verdict := x.verdict, deviations := x.deviations, ringCut := x.ringCut,
         standing := x.standing } : FindingResult)
    findingResults true xs = some (xs.map result) ∧
    ((∃ x ∈ xs, reported x = true) → findingResults false xs = some ((xs.filter reported).map result)) ∧
    ((∀ x ∈ xs, reported x = false) → findingResults false xs = none)

/-- JUDGEMENT_COMPLETION in one step (R14, R59, R61, R72, R81 to R88, R90, R101, R190): the list, the slot, the summary, the
Finding, the trace, the conditions and the records, and nothing else. The judgement reads the mould record of its start, and drift
and streaks are written to the record it finds (log 21); a setup record that is absent in WATCHING, which no run reaches, reads as
one that asks for nothing (log 18). -/
def Obligations.CompletionAppliesTheJudgement : Prop :=
  ∀ (s : State) (j : Judging) (slot : Fin 16) (cycle : Half) (m : MouldRecord),
    NoIdleWait s → s.verdict.judging = some j → (s.tracker.get j.record).slot = some slot →
    (s.tracker.get j.record).number = some cycle → s.mould slot = some m →
    let found := m.profiles
    let run := listRun s.suspects j.mould.header slot cycle (judgeAll (s.tracker.get j.record) j.mould)
    let xs := (judgeAll (s.tracker.get j.record) j.mould).map fun x => { x with standing := standingOf run slot x.watchPoint }
    let report := (s.tables.setup.map Setup.reportEvery).getD false
    let room := s.paths.own.length < 12 ∧ s.nonReplies < 10
    let other := s.tracker.get j.record.other
    ∃ v : State, exec .judgementCompletion s = .next (State.settle s v) ∧
      v.suspects = run.list ∧
      v.moulds =
        s.moulds.set slot.val
          (some
            { header := m.header
              profiles := found.map (profileAfter s.suspects m.header slot xs)
              judged := min 4294967295 (m.judged + 1) }) slot.isLt ∧
      v.verdict.summary = some { cycle := cycle, slot := slot, serial := j.mould.header.serial, entries := xs } ∧
      v.tracker.get j.record = CycleRecord.freed (some cycle) ∧
      (other.state = .wait →
        v.tracker.get j.record.other = { other with state := .judging, graceTimer := none } ∧
        v.verdict.judging.map Judging.record = some j.record.other ∧
        ∀ sl n, other.slot = some sl → v.mould sl = some n → v.verdict.judging = some { record := j.record.other, mould := n }) ∧
      (other.state ≠ .wait → v.tracker.get j.record.other = other ∧ v.verdict.judging = none) ∧
      v.tracker.untracked = s.tracker.untracked ∧ v.tracker.unsync = s.tracker.unsync ∧
      v.tracker.lastClosed = s.tracker.lastClosed ∧
      (let place := fun rs => s.placed (.finding ⟨cycle, slot, j.mould.header.serial, rs⟩)
       (∀ rs, findingResults report xs = some rs → room → v.paths = (place rs).paths ∧ v.portD = (place rs).portD) ∧
       (findingResults report xs = none ∨ ¬room → v.paths = s.paths ∧ v.portD = s.portD)) ∧
      (∀ ch ring e, s.trace = .running ch ring → s.tables.channels[ch]? = some e →
        v.trace =
          match (s.tables.setup.map Setup.trigger).getD .manual with
          | .manual => s.trace
          | .onDeviate =>
            if (∃ x ∈ xs, x.watchPoint = e.watchPoint ∧ x.verdict = .deviate) then .frozen ch ring else s.trace
          | .onConfirm => if e.watchPoint ∈ run.confirmed then .frozen ch ring else s.trace) ∧
      ((∀ ch ring, s.trace ≠ .running ch ring) → v.trace = s.trace) ∧
      v.cond.enables = s.cond.enables ∧
      (∀ c : Condition, c.isIn v.cond.flags = true ↔
        c.isIn s.cond.flags = true ∨
        (c = .suspect ∧ run.added ≠ []) ∨ (c = .crack ∧ run.confirmed ≠ []) ∨ (c = .listFull ∧ run.full ≠ []) ∨
        (c = .driftLimit ∧ ∃ p ∈ found, driftLimited s.suspects m.header slot xs p = true) ∨
        (c = .watchLost ∧ ∃ su, s.tables.setup = some su ∧ ∃ p ∈ found, ∃ x, resultFor xs p = some x ∧
          x.verdict = .blind ∧ p.blindStreak < su.blindLimit ∧ min 15 (p.blindStreak + 1) = su.blindLimit) ∨
        (c = .queueOverrun ∧ (findingResults report xs).isSome = true ∧ ¬room)) ∧
      v =
        { s with
          suspects := v.suspects, moulds := v.moulds, verdict := v.verdict, tracker := v.tracker, paths := v.paths,
          portD := v.portD, trace := v.trace, cond := v.cond }

/-! ### Requests -/

/-- The requests that a state does not permit are answered LOAD OPEN, BAD STATE or NO LOAD by the table of R167, and nothing else
happens (R165 checks 2 and 3).

A request's row executes nothing while the inbox is empty, while the own queue holds 12 frames, or while the head is another
row's (R164; log 2, log 7). -/
def Obligations.PermissionsAndTurns : Prop :=
  (∀ (s : State) (row : Instr) (r : Request) (rest : List Request), NoIdleWait s → LinesLaw s → Served s row r rest →
       let halted : List Instr := [.loadSetup, .loadBandSets, .loadChannels]
       let either : List Instr :=
         [.loadMould, .readMould, .confirmMould, .readSuspects, .releaseSuspect, .readCycle, .clearConditions, .setEnables,
          .traceSelect, .traceFreeze, .traceUnfreeze, .traceRead, .traceOff]
       (∀ l, s.engine.load = some l → row ∈ halted ∨ row ∈ either ∨ row = .start →
         exec row s = .next (s.answeredOnly r rest (.loadOpen l.kind l.remaining))) ∧
       (s.engine.load = none → row ∈ halted → s.engine.operating = .watching →
         exec row s = .next (s.answeredOnly r rest (.badState .watching))) ∧
       (s.engine.load = none → row ∈ [Instr.loadContinue, .loadAbort] → exec row s = .next (s.answeredOnly r rest .noLoad))) ∧
  (∀ (s : State) (row : Instr),
       row ∈ ([.identify, .readStatus, .restart, .halt, .start, .loadSetup, .loadBandSets, .loadChannels, .loadMould,
               .loadContinue, .loadAbort, .readMould, .confirmMould, .readSuspects, .releaseSuspect, .readCycle,
               .clearConditions, .setEnables, .traceSelect, .traceFreeze, .traceUnfreeze, .traceRead, .traceOff,
               .unknownRequest] : List Instr) →
       (s.engine.inbox = [] ∨ 12 ≤ s.paths.own.length ∨
         ∃ r rest, s.engine.inbox = r :: rest ∧ requestRow s.engine.load r ≠ row) →
       exec row s = .next s)

/-- IDENTIFY, READ_STATUS and UNKNOWN_REQUEST answer with what they report, or BAD ARGUMENT, and do nothing else, in every state
(R165, R173, R174). -/
def Obligations.IdentityStatusAndUnknownAreAnswered : Prop :=
  ∀ (s : State) (r : Request) (rest : List Request), NoIdleWait s → LinesLaw s →
    (Served s .identify r rest →
      exec .identify s =
        .next (s.answeredOnly r rest
          (.ok (.identity { station := 16#8 + s.straps.sta.setWidth 8, straps := s.straps, cause := s.engine.cause })))) ∧
    (Served s .unknownRequest r rest → exec .unknownRequest s = .next (s.answeredOnly r rest .badArgument)) ∧
    (Served s .readStatus r rest →
      exec .readStatus s =
        .next (s.answeredOnly r rest
          (.ok (.status
            { operating := s.engine.operating
              load := s.engine.load.map fun l =>
                { kind := l.kind
                  slot := match l.staging with | .channels _ => none | .mould slot _ _ => some slot
                  remaining := l.remaining }
              mould :=
                { state := s.monitor.state
                  slot := match s.monitor.state with
                    | .none => none
                    | .unconfirmed => s.monitor.code.debounced
                    | .confirmed snap => some snap.code }
              code := s.monitor.code.debounced
              clamp := s.monitor.clamp.debounced
              slots := s.moulds.map Option.isSome
              conditions := s.cond
              recA := { state := s.tracker.a.state, number := s.tracker.a.number }
              recB := { state := s.tracker.b.state, number := s.tracker.b.number }
              exam := s.exam.length
              forward := s.paths.forward.length
              upward := s.paths.upward.length
              own := s.paths.own.length
              nonReplies := s.nonReplies
              inbox := rest.length
              suspects := s.suspects.length
              trace := match s.trace with
                | .off => { state := 0, channel := none }
                | .running ch _ => { state := 1, channel := some ch }
                | .frozen ch _ => { state := 2, channel := some ch }
              pods := Vector.ofFn fun p => (s.podPresent p, s.pods[p].state)
              linkU := { signal := s.portU.signal, rxFlow := s.portU.rxFlow, txFlow := s.portU.txFlow }
              linkD := { signal := s.portD.signal, rxFlow := s.portD.rxFlow, txFlow := s.portD.txFlow } }))))

/-- START: in HALTED with no load open the four checks in their order, each over the whole table, or entry to WATCHING; in WATCHING
it is answered OK and changes nothing (R18, R146, R168, R169, R170). -/
def Obligations.StartEntersWatching : Prop :=
  ∀ (s : State) (r : Request) (rest : List Request), NoIdleWait s → LinesLaw s → Served s .start r rest →
    s.engine.load = none →
    let absent := fun e : ChannelEntry => s.podPresent e.pod = false
    let bare := fun e : ChannelEntry => s.tables.bandSets[e.bandSet] = none
    let first := fun (bad : ChannelEntry → Prop) (i : Nat) =>
      (∃ e, s.tables.channels[i]? = some e ∧ bad e) ∧ ∀ k e, k < i → s.tables.channels[k]? = some e → ¬bad e
    (s.engine.operating = .watching →
      exec .start s =
        .next (s.answeredOnly r rest (.ok (.control .watching s.tracker.a.state s.tracker.b.state)))) ∧
    (s.engine.operating = .halted →
      (s.tables.setup = none → exec .start s = .next (s.answeredOnly r rest (.refused .noSetup 0))) ∧
      (s.tables.setup.isSome = true → s.tables.channels = [] →
        exec .start s = .next (s.answeredOnly r rest (.refused .noChannels 0))) ∧
      (∀ i, s.tables.setup.isSome = true → first absent i →
        exec .start s = .next (s.answeredOnly r rest (.refused .podAbsent i))) ∧
      (∀ i, s.tables.setup.isSome = true → (∀ e ∈ s.tables.channels, ¬absent e) → first bare i →
        exec .start s = .next (s.answeredOnly r rest (.refused .bandSetAbsent i))) ∧
      (s.tables.setup.isSome = true → s.tables.channels ≠ [] → (∀ e ∈ s.tables.channels, ¬absent e ∧ ¬bare e) →
        exec .start s =
          .next (State.settle s
            ({ s with
               engine := { s.engine with inbox := rest, operating := .watching }
               tracker := { s.tracker with unsync := true }
               pods := Vector.ofFn fun p =>
                 if s.podPresent p = true then
                   { state := .live, timer := match s.portU.txFlow with | .go => s.freshTimer p | .hold => .suspended }
                 else s.pods[p] }.placed
              (replyTo r (.ok (.control .watching s.tracker.a.state s.tracker.b.state)))))))

/-- HALT: from WATCHING the part is HALTED, every record in OPEN, GRACE or WAIT is abandoned, a JUDGING one stays, the examination
queue is emptied and the pods are at rest; in HALTED it changes nothing; it is answered OK, a load open or not (R15, R18, R27, R146,
R169, R171). -/
def Obligations.HaltAbandonsTheCycles : Prop :=
  ∀ (s : State) (r : Request) (rest : List Request), NoIdleWait s → LinesLaw s → Served s .halt r rest →
    let left := fun x : CycleRecord =>
      if x.state = .judging ∨ x.state = .free then x else CycleRecord.freed x.number
    (s.engine.operating = .halted →
      exec .halt s =
        .next (s.answeredOnly r rest (.ok (.control .halted s.tracker.a.state s.tracker.b.state)))) ∧
    (s.engine.operating = .watching →
      exec .halt s =
        .next (State.settle s
          ({ s with
             engine := { s.engine with inbox := rest, operating := .halted }
             tracker := { s.tracker with a := left s.tracker.a, b := left s.tracker.b }
             exam := []
             pods := Vector.replicate 8 { state := .live, timer := .stopped } }.placed
            (replyTo r (.ok (.control .halted (left s.tracker.a).state (left s.tracker.b).state))))))

/-- RESTART keeps and clears by the table of R172; the flags are then just the standing causes that hold; its Reply is the first
frame of the emptied own queue, or on its way; a port that had sent HOLD has a GO due (R19, R54, R130, R140, R141, R161, R172,
R184). -/
def Obligations.RestartKeepsAndClears : Prop :=
  ∀ (s : State) (r : Request) (rest : List Request), Served s .restart r rest →
    let u : State :=
      { s with
        engine := { operating := .halted, inbox := [], load := none, cause := .restart }
        tracker :=
          { a := CycleRecord.freed none, b := CycleRecord.freed none, untracked := none, unsync := false, lastClosed := none }
        exam := []
        paths := { forward := [], upward := [], own := [], passOver := 0 }
        portU := { s.portU with txFlow := .go, flowDue := s.portU.flowDue || decide (s.portU.txFlow = .hold) }
        portD := { s.portD with txFlow := .go, flowDue := s.portD.flowDue || decide (s.portD.txFlow = .hold) }
        verdict := { judging := none, summary := none }
        cond := { flags := 0, enables := 0 }
        monitor :=
          { s.monitor with
            state :=
              if s.monitor.code.debounced.isSome = true ∧ s.monitor.clamp.debounced = some true then .unconfirmed
              else .none }
        pods := Vector.replicate 8 { state := .live, timer := .stopped }
        trace := .off }
    let w := { u with cond := { flags := u.standing, enables := 0 } }
    let v := w.placed (replyTo r (.ok (.restarted .halted .restart)))
    exec .restart s = .next { v with lines := v.evalLines }

/-- LOAD_SETUP in HALTED: a body whose 32 items all lie in their ranges replaces the setup record; otherwise it is REFUSED, FIELD
RANGE, with the number of the first item out of range, and changes nothing (R119, R175).

LOAD_BAND_SETS in HALTED: a pair count outside 1-8 is BAD ARGUMENT; the first pair out of range or of a slot named before is
REFUSED with its position; otherwise every named slot is replaced and the others stay (R22, R176). -/
def Obligations.SetupAndBandSetLoads : Prop :=
  (∀ (s : State) (r : Request) (rest : List Request), NoIdleWait s → LinesLaw s → Served s .loadSetup r rest →
       s.engine.load = none → s.engine.operating = .halted →
       let byte := fun i : Nat => (r.body.getD i 0).toNat
       let half := fun i : Nat => byte i * 256 + byte (i + 1)
       let ok := fun k : Nat =>
         if k ≤ 8 then byte (3 * (k - 1)) ≤ 1 ∧ 5 ≤ half (3 * (k - 1) + 1) ∧ half (3 * (k - 1) + 1) ≤ 1000
         else if k = 9 then 10 ≤ half 24 ∧ half 24 ≤ 6000
         else if k = 10 then half 26 ≤ 500
         else if k = 11 then 1 ≤ byte 28 ∧ byte 28 ≤ 15
         else if k = 12 then 10 ≤ half 29 ∧ half 29 ≤ 2000
         else if k = 13 then 100 ≤ half 31 ∧ half 31 ≤ 5000
         else if k = 14 then byte 33 ≤ 1
         else if k = 15 then byte 34 ≤ 2
         else if k = 16 then byte 35 ≤ 1
         else if k = 17 then byte 36 ≤ 2
         else byte (19 + k) ≤ 3
       (∀ k, 1 ≤ k → k ≤ 32 → ¬ok k → (∀ i, 1 ≤ i → i < k → ok i) →
         exec .loadSetup s = .next (s.answeredOnly r rest (.refused .fieldRange k))) ∧
       ((∀ k, 1 ≤ k → k ≤ 32 → ok k) → ∃ su : Setup,
         exec .loadSetup s =
           .next (State.settle s ({ s.popped rest with tables := { s.tables with setup := some su } }.placed
             (replyTo r (.ok .empty)))) ∧
         (∀ p : PodId, su.pods[p] = { present := byte (3 * p.val) == 1, limit := half (3 * p.val + 1) }) ∧
         su.cycleLimit = half 24 ∧ su.closeGrace = half 26 ∧ su.blindLimit = byte 28 ∧ su.stallLimit = half 29 ∧
         su.loadTimeout = half 31 ∧ su.reportEvery = (byte 33 == 1) ∧
         (byte 34, su.policy) ∈ [(0, ForwardPolicy.all), (1, .tagged), (2, .none)] ∧ su.autoConfirm = (byte 35 == 1) ∧
         (byte 36, su.trigger) ∈ [(0, TraceTrigger.manual), (1, .onDeviate), (2, .onConfirm)] ∧
         ∀ c : Condition, (byte (37 + c.index.val), su.classes[c.index]) ∈
           [(0, CondClass.none), (1, .advise), (2, .warn), (3, .stop)])) ∧
  (∀ (s : State) (r : Request) (rest : List Request), NoIdleWait s → LinesLaw s → Served s .loadBandSets r rest →
       s.engine.load = none → s.engine.operating = .halted →
       let byte := fun i : Nat => (r.body.getD i 0).toNat
       let half := fun i : Nat => byte i * 256 + byte (i + 1)
       let n := byte 0
       let slot := fun k : Nat => byte (1 + 17 * (k - 1))
       let edge := fun (k b : Nat) (upper : Nat) => half (2 + 17 * (k - 1) + 4 * b + 2 * upper)
       let fits := fun k : Nat => slot k < 8 ∧ ∀ b, b < 4 → 10 ≤ edge k b 0 ∧ edge k b 0 < edge k b 1 ∧ edge k b 1 ≤ 20000
       let repeated := fun k : Nat => ∃ i, 1 ≤ i ∧ i < k ∧ slot i = slot k
       let band := fun k b => ({ lower := edge k b 0, upper := edge k b 1 } : Band)
       (n = 0 ∨ 8 < n → exec .loadBandSets s = .next (s.answeredOnly r rest .badArgument)) ∧
       (1 ≤ n → n ≤ 8 →
         (∀ k, 1 ≤ k → k ≤ n → (∀ i, 1 ≤ i → i < k → fits i ∧ ¬repeated i) →
           (¬fits k → exec .loadBandSets s = .next (s.answeredOnly r rest (.refused .fieldRange k))) ∧
           (fits k → repeated k → exec .loadBandSets s = .next (s.answeredOnly r rest (.refused .duplicateSlot k)))) ∧
         ((∀ k, 1 ≤ k → k ≤ n → fits k ∧ ¬repeated k) → ∃ sets : Vector (Option BandSet) 8,
           exec .loadBandSets s =
             .next (s.answeredOnly r rest (.ok .empty) |>.setTables { s.tables with bandSets := sets }) ∧
           (∀ k (h : slot k < 8), 1 ≤ k → k ≤ n →
             sets[slot k] = some { b1 := band k 0, b2 := band k 1, b3 := band k 2, b4 := band k 3 }) ∧
           ∀ i : Fin 8, (∀ k, 1 ≤ k → k ≤ n → slot k ≠ i.val) → sets[i] = s.tables.bandSets[i])))

/-- LOAD_CHANNELS in HALTED with no load open: BAD ARGUMENT for a count above 32 or more records than the count or than four; a
count of 0 empties the table and turns the trace OFF; otherwise a load opens with its records and its timer, answered MORE while
records remain, and at none remaining the load is committed in the same step (R20, R178, R182; log 10).

LOAD_MOULD with no load open: BAD ARGUMENT for a code above 15, a W outside 1-24, or more profiles than W or than three; IN USE
for a slot in use; otherwise a load opens, and at none remaining it is committed in the same step (R63, R64, R182; log 10).

The records of a body stand one after another: a channel record is 10 bytes and a mould profile 23, a mould header 13, each field
at its offset, most significant byte first (R20, R56, R57, R64, R178, R192, R194). -/
def Obligations.LoadsOpenOrCommit : Prop :=
  (∀ (body : List Byte) (off n : Nat),
       let byte := fun i : Nat => (body.getD i 0).toNat
       let half := fun i : Nat => byte i * 256 + byte (i + 1)
       (rawChannelsAt body off n =
         (List.range n).map fun k =>
           let i := off + 10 * k
           { pod := byte i, channel := byte (i + 1), watchPoint := byte (i + 2), bandSet := byte (i + 3),
             hitThreshold := half (i + 4), deadSpan := byte (i + 6), decayThreshold := half (i + 7),
             forward := byte (i + 9) }) ∧
       (rawProfilesAt body off n =
         (List.range n).map fun k =>
           let i := off + 23 * k
           { watchPoint := byte i, bandMask := byte (i + 1)
             bands := ⟨(half (i + 2), half (i + 4)), (half (i + 6), half (i + 8)), (half (i + 10), half (i + 12)),
                       (half (i + 14), half (i + 16))⟩
             hitPresence := byte (i + 18), hitLimit := byte (i + 19), ringPresence := byte (i + 20),
             ringLo := byte (i + 21), ringHi := byte (i + 22) }) ∧
       (rawHeaderAt body off).serial.toNat = half off * 65536 + half (off + 2) ∧
       rawHeaderAt body off =
         { serial := (rawHeaderAt body off).serial, autoEligible := byte (off + 4), k := byte (off + 5), n := byte (off + 6),
           driftShift := byte (off + 7), driftLimit := half (off + 8), minVibe := byte (off + 10),
           gapLimit := byte (off + 11), w := byte (off + 12) }) ∧
  (∀ (s : State) (r : Request) (rest : List Request), NoIdleWait s → LinesLaw s → Served s .loadChannels r rest →
       s.engine.load = none → s.engine.operating = .halted →
       let total := (r.body.getD 0 0).toNat
       let given := (r.body.getD 1 0).toNat
       let load : OpenLoad :=
         { staging := .channels (rawChannelsAt r.body 2 given)
           declared := total
           remaining := total - given
           timer := (s.tables.setup.map Setup.loadTimeout).getD 5000 }
       (32 < total ∨ total < given ∨ 4 < given → exec .loadChannels s = .next (s.answeredOnly r rest .badArgument)) ∧
       (total = 0 → given = 0 →
         exec .loadChannels s =
           .next { s.answeredOnly r rest (.done 0) with tables := { s.tables with channels := [] }, trace := .off }) ∧
       (total ≤ 32 → given < total → given ≤ 4 →
         exec .loadChannels s =
           .next (({ s with engine := { s.engine with inbox := rest, load := some load } }).placed
             (replyTo r (.more (total - given))))) ∧
       (0 < total → given = total → given ≤ 4 →
         let x := commitLoad load (s.popped rest)
         exec .loadChannels s = .next (State.settle s (x.1.placed (replyTo r x.2))))) ∧
  (∀ (s : State) (r : Request) (rest : List Request), NoIdleWait s → LinesLaw s → Served s .loadMould r rest →
       s.engine.load = none →
       let code := (r.body.getD 0 0).toNat
       let w := (r.body.getD 13 0).toNat
       let given := (r.body.getD 14 0).toNat
       let used := fun slot : Fin 16 =>
         (s.engine.operating = .watching ∧ s.installed = some slot) ∨
         ∃ i, ((s.tracker.get i).state = .grace ∨ (s.tracker.get i).state = .wait ∨ (s.tracker.get i).state = .judging) ∧
           (s.tracker.get i).slot = some slot
       (15 < code ∨ w = 0 ∨ 24 < w ∨ w < given ∨ 3 < given →
         exec .loadMould s = .next (s.answeredOnly r rest .badArgument)) ∧
       (∀ slot : Fin 16, slot.val = code → 1 ≤ w → w ≤ 24 → given ≤ w → given ≤ 3 →
         let load : OpenLoad :=
           { staging := .mould slot (rawHeaderAt r.body 1) (rawProfilesAt r.body 15 given)
             declared := w
             remaining := w - given
             timer := (s.tables.setup.map Setup.loadTimeout).getD 5000 }
         (used slot → exec .loadMould s = .next (s.answeredOnly r rest (.inUse slot))) ∧
         (¬used slot → given < w →
           exec .loadMould s =
             .next (({ s with engine := { s.engine with inbox := rest, load := some load } }).placed
               (replyTo r (.more (w - given))))) ∧
         (¬used slot → given = w →
           let x := commitLoad load (s.popped rest)
           exec .loadMould s = .next (State.settle s (x.1.placed (replyTo r x.2))))))

/-- LOAD_CONTINUE with a load open: a count of 0, above the kind's four or three, or above the remaining count is BAD ARGUMENT and
changes nothing; otherwise the records join the staging area, the remaining count falls and the timer restarts, answered MORE, and
at none remaining the load is committed in the same step (R179, R182). -/
def Obligations.LoadContinueAppendsOrCommits : Prop :=
  ∀ (s : State) (r : Request) (rest : List Request) (l : OpenLoad), NoIdleWait s → LinesLaw s →
    Served s .loadContinue r rest → s.engine.load = some l →
    let given := (r.body.getD 0 0).toNat
    let most := match l.kind with | .channels => 4 | .mould => 3
    let next : OpenLoad :=
      { staging := match l.staging with
          | .channels records => .channels (records ++ rawChannelsAt r.body 1 given)
          | .mould slot header profiles => .mould slot header (profiles ++ rawProfilesAt r.body 1 given)
        declared := l.declared
        remaining := l.remaining - given
        timer := (s.tables.setup.map Setup.loadTimeout).getD 5000 }
    (given = 0 ∨ most < given ∨ l.remaining < given →
      exec .loadContinue s = .next (s.answeredOnly r rest .badArgument)) ∧
    (0 < given → given ≤ most → given < l.remaining →
      exec .loadContinue s =
        .next (({ s with engine := { s.engine with inbox := rest, load := some next } }).placed
          (replyTo r (.more (l.remaining - given))))) ∧
    (0 < given → given ≤ most → given = l.remaining →
      let x := commitLoad next (s.popped rest)
      exec .loadContinue s = .next (State.settle s (x.1.placed (replyTo r x.2))))

/-- A channel load's commit: all records in their ranges and no (pod, channel) pair or watch point repeated give a table of the
records in load order, the trace OFF and DONE with their number; the first record that fails is REFUSED with its position; the load
is over either way (R20, R180). -/
def Obligations.ChannelCommitChecksInOrder : Prop :=
  ∀ (s : State) (l : OpenLoad) (records : List RawChannel), l.staging = .channels records →
    let x := commitLoad l s
    let fits := fun c : RawChannel =>
      1 ≤ c.pod ∧ c.pod ≤ 8 ∧ c.channel ≤ 7 ∧ c.watchPoint ≤ 23 ∧ c.bandSet ≤ 7 ∧ 1 ≤ c.hitThreshold ∧
      c.hitThreshold ≤ 32767 ∧ 1 ≤ c.deadSpan ∧ c.deadSpan ≤ 255 ∧ c.decayThreshold ≤ 2047 ∧ c.forward ≤ 1
    let earlier := fun (same : RawChannel → RawChannel → Prop) (i : Nat) (c : RawChannel) =>
      ∃ (k : Nat) (d : RawChannel), k < i ∧ records[k]? = some d ∧ same d c
    let pair := fun d c : RawChannel => d.pod = c.pod ∧ d.channel = c.channel
    let point := fun d c : RawChannel => d.watchPoint = c.watchPoint
    let passes := fun (i : Nat) (c : RawChannel) => fits c ∧ ¬earlier pair i c ∧ ¬earlier point i c
    let ended := { s with engine := { s.engine with load := none } }
    (∀ (i : Nat) (c : RawChannel), records[i]? = some c → (∀ (k : Nat) (d : RawChannel), k < i → records[k]? = some d → passes k d) →
      (¬fits c → x = (ended, .refused .fieldRange (i + 1))) ∧
      (fits c → earlier pair i c → x = (ended, .refused .duplicateChannel (i + 1))) ∧
      (fits c → ¬earlier pair i c → earlier point i c → x = (ended, .refused .duplicateWatchPoint (i + 1)))) ∧
    ((∀ (i : Nat) (c : RawChannel), records[i]? = some c → passes i c) → ∃ table : List ChannelEntry,
      x = ({ ended with tables := { s.tables with channels := table }, trace := .off }, .done records.length) ∧
      table.length = records.length ∧
      ∀ (i : Nat) (c : RawChannel) (e : ChannelEntry), records[i]? = some c → table[i]? = some e →
        e.pod.val + 1 = c.pod ∧ e.channel.val = c.channel ∧ e.watchPoint.val = c.watchPoint ∧ e.bandSet.val = c.bandSet ∧
        e.hitThreshold = c.hitThreshold ∧ e.deadSpan = c.deadSpan ∧ e.decayThreshold = c.decayThreshold ∧
        e.forward = (c.forward == 1))

/-- A mould load's commit: the checks of R65 in their order, each failure with its item and the slot as it was; a load that passes
replaces the slot whole, with current baselines at the loaded ones, streaks and judged count 0, removes the slot's suspect entries,
unconfirms an installed mould, and is DONE with the number removed (R47, R56 to R59, R65, R66, R67, R109). That a presence byte
above 1 or a mask bit above band 4 is FIELD RANGE, and that the bytes of an absent field are not checked, is the model's reading
(log 11). -/
def Obligations.MouldCommitReplacesTheSlot : Prop :=
  ∀ (s : State) (l : OpenLoad) (slot : Fin 16) (header : RawHeader) (profiles : List RawProfile),
    l.staging = .mould slot header profiles →
    let x := commitLoad l s
    let ended := { s with engine := { s.engine with load := none } }
    let rises := fun i : Nat => ∀ p q : RawProfile, 0 < i → profiles[i - 1]? = some p → profiles[i]? = some q → p.watchPoint < q.watchPoint
    let headerFits :=
      header.autoEligible ≤ 1 ∧ 1 ≤ header.k ∧ header.k ≤ 8 ∧ 1 ≤ header.n ∧ header.n ≤ 8 ∧ header.driftShift ≤ 7 ∧
      header.driftLimit ≤ 511 ∧ 1 ≤ header.minVibe ∧ header.minVibe ≤ 255 ∧ header.gapLimit ≤ 255 ∧ 1 ≤ header.w ∧ header.w ≤ 24
    let placeFits := fun (p : RawProfile) (weight : Nat) (b : Nat × Nat) =>
      p.bandMask / weight % 2 = 1 → b.1 ≤ 2047 ∧ 1 ≤ b.2 ∧ b.2 ≤ 511
    let fits := fun p : RawProfile =>
      p.watchPoint ≤ 23 ∧ 1 ≤ p.bandMask ∧ p.bandMask ≤ 15 ∧ placeFits p 1 p.bands.b1 ∧ placeFits p 2 p.bands.b2 ∧
      placeFits p 4 p.bands.b3 ∧ placeFits p 8 p.bands.b4 ∧ p.hitPresence ≤ 1 ∧ (p.hitPresence = 1 → p.hitLimit ≤ 254) ∧
      p.ringPresence ≤ 1 ∧ (p.ringPresence = 1 → p.ringLo ≤ p.ringHi)
    let ordered := ∀ i, i < profiles.length → rises i
    let allFit := ∀ p ∈ profiles, fits p
    (∀ i, i < profiles.length → ¬rises i → (∀ k, k < i → rises k) → x = (ended, .refused .watchPointOrder (i + 1))) ∧
    (ordered → ¬headerFits → x = (ended, .refused .fieldRange 0)) ∧
    (∀ (i : Nat) (p : RawProfile), ordered → headerFits → profiles[i]? = some p → ¬fits p → (∀ (k : Nat) (q : RawProfile), k < i → profiles[k]? = some q → fits q) →
      x = (ended, .refused .fieldRange (i + 1))) ∧
    (ordered → headerFits → allFit → header.n < header.k → x = (ended, .refused .kAboveN 0)) ∧
    (ordered → headerFits → allFit → header.k ≤ header.n → s.inUse slot = true → x = (ended, .inUse slot)) ∧
    (ordered → headerFits → allFit → header.k ≤ header.n → s.inUse slot = false → ∃ m : MouldRecord,
      x =
        ({ ended with
           moulds := s.moulds.set slot.val (some m) slot.isLt
           suspects := s.suspects.filter fun e => e.slot ≠ slot
           monitor := { s.monitor with state := if s.installed = some slot then .unconfirmed else s.monitor.state } },
         .done (s.suspects.countP fun e => e.slot == slot)) ∧
      m.judged = 0 ∧
      m.header =
        { serial := header.serial, autoEligible := header.autoEligible == 1, k := header.k, n := header.n,
          driftShift := header.driftShift, driftLimit := header.driftLimit, minVibe := header.minVibe,
          gapLimit := header.gapLimit, w := header.w } ∧
      m.profiles.length = profiles.length ∧
      ∀ (i : Nat) (p : RawProfile) (q : Profile), profiles[i]? = some p → m.profiles[i]? = some q →
        let place := fun (weight : Nat) (b : Nat × Nat) =>
          if p.bandMask / weight % 2 = 1 then some ({ loaded := b.1, current := b.1, tolerance := b.2 } : BandProfile) else none
        q.watchPoint.val = p.watchPoint ∧
        q.bands = ⟨place 1 p.bands.b1, place 2 p.bands.b2, place 4 p.bands.b3, place 8 p.bands.b4⟩ ∧
        q.hitLimit = (if p.hitPresence = 1 then some p.hitLimit else none) ∧
        q.ringWindow = (if p.ringPresence = 1 then some (p.ringLo, p.ringHi) else none) ∧ q.blindStreak = 0)

/-- LOAD_ABORT with a load open discards it, timer and staging with it, and is answered OK; with none it is answered NO LOAD. Nothing
else changes. An expiry of the load timer taken first discards the load with LOAD TIMEOUT, so that the abort finds none; taken after
the abort it does not happen (R181; log 2). -/
def Obligations.LoadAbortDiscardsTheLoad : Prop :=
  ∀ (s : State) (r : Request) (rest : List Request), NoIdleWait s → LinesLaw s → Served s .loadAbort r rest →
    (s.engine.load.isSome = true →
      exec .loadAbort s =
        .next ({ s with engine := { s.engine with inbox := rest, load := none } }.placed (replyTo r (.ok .empty)))) ∧
    (s.engine.load = none → exec .loadAbort s = .next (s.answeredOnly r rest .noLoad)) ∧
    (s.engine.load.isSome = true →
      exec .loadTimerExpiry s =
        .next (State.settle s ({ s with engine := { s.engine with load := none } }.raise .loadTimeout))) ∧
    ∀ u : State, u.engine.load = none → exec .loadTimerExpiry u = .next u

/-- READ_MOULD, READ_SUSPECTS and READ_CYCLE with no load open answer BAD ARGUMENT, NOT FOUND or OK with their page, and do nothing
else (R69, R89, R110). -/
def Obligations.ReadsReportTheirPage : Prop :=
  ∀ (s : State) (r : Request) (rest : List Request), NoIdleWait s → LinesLaw s → s.engine.load = none →
    let byte := fun i : Nat => (r.body.getD i 0).toNat
    let answers := fun (row : Instr) (a : Answer) => exec row s = .next (s.answeredOnly r rest a)
    (Served s .readMould r rest →
      (15 < byte 0 ∨ 23 < byte 1 → answers .readMould .badArgument) ∧
      ∀ slot : Fin 16, slot.val = byte 0 → byte 1 ≤ 23 →
        (s.mould slot = none → answers .readMould .notFound) ∧
        ∀ m, s.mould slot = some m →
          let from' := m.profiles.filter fun p => byte 1 ≤ p.watchPoint.val
          answers .readMould
            (.ok (.mould m.header m.judged (from'.take 6) ((from'[6]?).map Profile.watchPoint)))) ∧
    (Served s .readSuspects r rest →
      (31 < byte 0 → answers .readSuspects .badArgument) ∧
      (byte 0 ≤ 31 → ∃ page : List (Nat × SuspectEntry),
        answers .readSuspects (.ok (.suspects s.suspects.length page)) ∧
        page.length = min 8 (s.suspects.length - byte 0) ∧
        ∀ k, k < page.length → page[k]? = (s.suspects[byte 0 + k]?).map fun e => (byte 0 + k, e))) ∧
    (Served s .readCycle r rest →
      (23 < byte 0 → answers .readCycle .badArgument) ∧
      (byte 0 ≤ 23 →
        (s.verdict.summary = none → answers .readCycle .notFound) ∧
        ∀ x, s.verdict.summary = some x →
          let from' := x.entries.filter fun e => byte 0 ≤ e.watchPoint.val
          answers .readCycle
            (.ok (.cycle x.cycle x.slot x.serial x.entries.length (from'.take 6)
              ((from'[6]?).map SummaryEntry.watchPoint)))))

/-- CONFIRM_MOULD with no load open: the code's range, then the four checks in their order, each changing nothing when it fails; then
CONFIRMED with a fresh snapshot, answered with the slot and its serial (R44, R50, R51). -/
def Obligations.ConfirmMouldChecksThenConfirms : Prop :=
  ∀ (s : State) (r : Request) (rest : List Request), NoIdleWait s → LinesLaw s → Served s .confirmMould r rest →
    s.engine.load = none →
    let byte := fun i : Nat => (r.body.getD i 0).toNat
    let serial := ((byte 1 * 256 + byte 2) * 256 + byte 3) * 256 + byte 4
    let answers := fun a : Answer => exec .confirmMould s = .next (s.answeredOnly r rest a)
    (15 < byte 0 → answers .badArgument) ∧
    ∀ code : Fin 16, code.val = byte 0 →
      (s.monitor.clamp.debounced ≠ some true → answers (.refused .noClamp 0)) ∧
      (s.monitor.clamp.debounced = some true →
        (s.monitor.code.debounced ≠ some code → answers (.refused .codeMismatch 0)) ∧
        (s.monitor.code.debounced = some code →
          (s.mould code = none → answers (.refused .emptySlot 0)) ∧
          ∀ m, s.mould code = some m →
            (m.header.serial.toNat ≠ serial → answers (.refused .serialMismatch 0)) ∧
            (m.header.serial.toNat = serial →
              exec .confirmMould s =
                .next (State.settle s
                  ({ s.popped rest with
                     monitor := { s.monitor with state := .confirmed { code := code, clamp := true } } }.placed
                    (replyTo r (.ok (.confirmed code m.header.serial))))))))

/-- RELEASE_SUSPECT with no load open: its three checks in order, each changing nothing when it fails; then the entry leaves the list
and, with relearn, the profile's baselines return to their loaded values and its streak to 0, where there is such a profile (R70,
R105, R106). -/
def Obligations.ReleaseSuspectRemovesAndRelearns : Prop :=
  ∀ (s : State) (r : Request) (rest : List Request), NoIdleWait s → LinesLaw s → Served s .releaseSuspect r rest →
    s.engine.load = none →
    let byte := fun i : Nat => (r.body.getD i 0).toNat
    let answers := fun a : Answer => exec .releaseSuspect s = .next (s.answeredOnly r rest a)
    (15 < byte 0 ∨ 23 < byte 1 ∨ 1 < byte 2 → answers .badArgument) ∧
    ∀ (slot : Fin 16) (wp : Fin 24), slot.val = byte 0 → wp.val = byte 1 → byte 2 ≤ 1 →
      let carried := ∃ i,
        ((s.tracker.get i).state = .grace ∨ (s.tracker.get i).state = .wait ∨ (s.tracker.get i).state = .judging) ∧
        (s.tracker.get i).slot = some slot
      let left := s.suspects.filter fun e => ¬(e.slot = slot ∧ e.watchPoint = wp)
      let reset := fun p : Profile =>
        ({ p with
          bands := p.bands.map fun place => place.map fun b : BandProfile => { b with current := b.loaded }
          blindStreak := 0 } : Profile)
      ((∀ e ∈ s.suspects, ¬(e.slot = slot ∧ e.watchPoint = wp)) → answers .notFound) ∧
      ∀ e, (s.suspects.find? fun d => d.slot == slot && d.watchPoint == wp) = some e →
        (byte 2 = 1 → carried → answers (.inUse slot)) ∧
        (byte 2 = 0 ∨ (¬carried ∧ ∀ m, s.mould slot = some m → ∀ p ∈ m.profiles, p.watchPoint ≠ wp) →
          exec .releaseSuspect s =
            .next (State.settle s
              ({ s.popped rest with suspects := left }.placed (replyTo r (.ok (.released e left.length false)))))) ∧
        ∀ m : MouldRecord, byte 2 = 1 → ¬carried → s.mould slot = some m → (∃ p ∈ m.profiles, p.watchPoint = wp) →
          exec .releaseSuspect s =
            .next (State.settle s
              ({ s.popped rest with
                 suspects := left
                 moulds :=
                   s.moulds.set slot.val
                     (some ({ m with profiles := m.profiles.map fun p : Profile => if p.watchPoint = wp then reset p else p } : MouldRecord))
                     slot.isLt }.placed
                (replyTo r (.ok (.released e left.length true)))))

/-- CLEAR_CONDITIONS and SET_ENABLES with no load open: a set with its top bit at 1 is BAD ARGUMENT; otherwise each named flag is
cleared unless its standing cause holds, and the enables take the set, each answered with its two sets (R117, R124; that the top
bit is BAD ARGUMENT for Clear Conditions too is the model's reading, log 22). -/
def Obligations.ClearingAndEnablingByTheSet : Prop :=
  ∀ (s : State) (r : Request) (rest : List Request), NoIdleWait s → LinesLaw s → s.engine.load = none →
    let raw := (r.body.getD 0 0).toNat * 256 + (r.body.getD 1 0).toNat
    let named : CondSet := BitVec.ofNat 15 raw
    (Served s .clearConditions r rest →
      (32768 ≤ raw → exec .clearConditions s = .next (s.answeredOnly r rest .badArgument)) ∧
      (raw < 32768 → ∃ kept flags : CondSet,
        (∀ c : Condition, c.isIn kept = true ↔
          c.isIn named = true ∧ c.isIn s.cond.flags = true ∧ s.causeHolds c = true) ∧
        (∀ c : Condition, c.isIn flags = true ↔
          c.isIn s.cond.flags = true ∧ (c.isIn named = true → s.causeHolds c = true)) ∧
        exec .clearConditions s =
          .next (State.settle s
            ({ s.popped rest with cond := { s.cond with flags := flags } }.placed
              (replyTo r (.ok (.cleared kept flags))))))) ∧
    (Served s .setEnables r rest →
      (32768 ≤ raw → exec .setEnables s = .next (s.answeredOnly r rest .badArgument)) ∧
      (raw < 32768 →
        exec .setEnables s =
          .next (State.settle s
            ({ s.popped rest with cond := { s.cond with enables := named } }.placed
              (replyTo r (.ok (.enables named s.cond.flags)))))))

/-- TRACE_FREEZE and TRACE_UNFREEZE with no load open: in RUNNING Freeze keeps the channel and the ring, empty or not; in FROZEN it
changes nothing; Unfreeze empties the ring and runs on the same channel; in OFF both are BAD STATE (R188). -/
def Obligations.FreezeAndUnfreeze : Prop :=
  ∀ (s : State) (r : Request) (rest : List Request), NoIdleWait s → LinesLaw s → s.engine.load = none →
    let traced := fun x : Trace => Host.Outcome.next ({ s.answeredOnly r rest (.ok .empty) with trace := x })
    let refused := Host.Outcome.next (s.answeredOnly r rest (.badState s.engine.operating))
    (Served s .traceFreeze r rest →
      (∀ ch ring, s.trace = .running ch ring → exec .traceFreeze s = traced (.frozen ch ring)) ∧
      (∀ ch ring, s.trace = .frozen ch ring → exec .traceFreeze s = traced (.frozen ch ring)) ∧
      (s.trace = .off → exec .traceFreeze s = refused)) ∧
    (Served s .traceUnfreeze r rest →
      (∀ ch ring, s.trace = .running ch ring ∨ s.trace = .frozen ch ring →
        exec .traceUnfreeze s = traced (.running ch [])) ∧
      (s.trace = .off → exec .traceUnfreeze s = refused))

/-- TRACE_SELECT, TRACE_READ and TRACE_OFF with no load open: selecting an entry of the table runs the trace on it with an empty ring;
reading a FROZEN ring reports the block held at the index and changes nothing; Trace Off is answered OK and the trace is OFF (R187,
R189). -/
def Obligations.SelectReadAndOff : Prop :=
  ∀ (s : State) (r : Request) (rest : List Request), NoIdleWait s → LinesLaw s → s.engine.load = none →
    let i := (r.body.getD 0 0).toNat
    let answers := fun (row : Instr) (a : Answer) => exec row s = .next (s.answeredOnly r rest a)
    (Served s .traceSelect r rest →
      (31 < i → answers .traceSelect .badArgument) ∧
      (i ≤ 31 → s.tables.channels.length ≤ i → answers .traceSelect .notFound) ∧
      (i ≤ 31 → i < s.tables.channels.length →
        exec .traceSelect s = .next { s.answeredOnly r rest (.ok .empty) with trace := .running i [] })) ∧
    (Served s .traceRead r rest →
      (63 < i → answers .traceRead .badArgument) ∧
      (i ≤ 63 → (∀ ch ring, s.trace ≠ .frozen ch ring) → answers .traceRead (.badState s.engine.operating)) ∧
      (∀ ch ring, i ≤ 63 → s.trace = .frozen ch ring →
        (ring.length ≤ i → answers .traceRead .notFound) ∧
        ∀ c, ring[i]? = some c → answers .traceRead (.ok (.traced ring.length ch i c)))) ∧
    (Served s .traceOff r rest →
      exec .traceOff s = .next { s.answeredOnly r rest (.ok .empty) with trace := .off })

/-! ### The laws -/

/-- Every step keeps: no transmitter idles over a waiting frame, the queues keep their sizes, and the sent flow states follow them
(R24, R92, R141, R154, R155, R157, R158, R163). -/
def Obligations.StepsKeepTheQueues : Prop :=
  ∀ s t : State, NoIdleWait s → QueueLaw s → FlowLaw s → step s = .next t → NoIdleWait t ∧ QueueLaw t ∧ FlowLaw t

/-- Every step keeps: the lines show the flags, and no standing cause holds with its flag clear (R116, R120, R123). -/
def Obligations.StepsKeepLinesAndCauses : Prop :=
  ∀ s t : State, LinesLaw s → CauseLaw s → step s = .next t → LinesLaw t ∧ CauseLaw t

/-- Every step keeps the law of the records: at most one OPEN, at most one JUDGING, and what each state carries (R2). -/
def Obligations.StepsKeepTheRecords : Prop :=
  ∀ s t : State, Sound s → step s = .next t → RecordLaw t

/-- Every step keeps the laws of the channel table, of the copies made under it, and of the open load (R20, R21, R177, R185). -/
def Obligations.StepsKeepChannelsCopiesAndLoads : Prop :=
  ∀ s t : State, Sound s → step s = .next t → ChannelLaw t ∧ CopyLaw t ∧ LoadLaw t

/-- Every step keeps the law of the mould table: each current baseline stays within the drift limit of the loaded one and within
0-2047, and every field in its range (R56 to R59). -/
def Obligations.StepsKeepTheMoulds : Prop :=
  ∀ s t : State, Sound s → step s = .next t → MouldLaw t

/-- Every step keeps the laws of the mould monitor, of carried slots, of the pods, of the receivers and of the transmitters: a frame
that is being sent has its END still to come (R17, R29, R43, R44, R73, R133, R137, R143, R146, R148). -/
def Obligations.StepsKeepMonitorCarriedPodsAndPorts : Prop :=
  ∀ s t : State, Sound s → step s = .next t → MonitorLaw t ∧ CarriedLaw t ∧ PodLaw t ∧ PortLaw t

/-- Every step keeps the law of the suspect list: no two entries of one slot and watch point, and windows as K and N ask (R92, R94). -/
def Obligations.StepsKeepTheSuspectList : Prop :=
  ∀ s t : State, Sound s → step s = .next t → SuspectLaw t
end

