-- ==== Sys2Proof/Laws/Feature.lean ====
section
/-! SUPPORT. A block of each phase reaches the part of that phase, and no other. -/

namespace Sys2Proof.Machine

variable {x : Accumulator} {e : ChannelEntry} {bands : Option BandSet} {c : Copy}

/-- A VIBE block (R28, R32). -/
theorem Accumulator.block_vibe (h : c.phase = .vibe) : x.block e bands c = { x with vibe := x.vibe.block bands c } := by
  simp [Accumulator.block, h]

/-- A RING block (R28, R34). -/
theorem Accumulator.block_ring (h : c.phase = .ring) :
    x.block e bands c = { x with ring := x.ring.block e.decayThreshold c } := by
  simp [Accumulator.block, h]

/-- A STRIP block (R28, R37). -/
theorem Accumulator.block_strip (h : c.phase = .strip) :
    x.block e bands c = { x with strip := x.strip.block e.hitThreshold e.deadSpan c } := by
  simp [Accumulator.block, h]

end Sys2Proof.Machine
end

