-- ==== Sys2Proof/Laws/Judgement.lean ====
section
/-! SUPPORT. One lemma for each bit of the sets that a verdict holds, what the comparisons and the drift
clamp say, and the results one after the other. -/

namespace Sys2Proof.Machine

section
variable (p : Profile) (levels : Four Nat) (hits : Nat) (ringDown : Option Nat)

theorem deviationsOf_band1 : (deviationsOf p levels hits ringDown).getLsbD 0 = bandDeviates p.bands.b1 levels.b1 :=
  BitVec.getLsbD_ofBoolListLE

theorem deviationsOf_band2 : (deviationsOf p levels hits ringDown).getLsbD 1 = bandDeviates p.bands.b2 levels.b2 :=
  BitVec.getLsbD_ofBoolListLE

theorem deviationsOf_band3 : (deviationsOf p levels hits ringDown).getLsbD 2 = bandDeviates p.bands.b3 levels.b3 :=
  BitVec.getLsbD_ofBoolListLE

theorem deviationsOf_band4 : (deviationsOf p levels hits ringDown).getLsbD 3 = bandDeviates p.bands.b4 levels.b4 :=
  BitVec.getLsbD_ofBoolListLE

theorem deviationsOf_hits : (deviationsOf p levels hits ringDown).getLsbD 4 = hitsDeviate p.hitLimit hits :=
  BitVec.getLsbD_ofBoolListLE

theorem deviationsOf_ring : (deviationsOf p levels hits ringDown).getLsbD 5 = ringDeviates p.ringWindow ringDown :=
  BitVec.getLsbD_ofBoolListLE

end

theorem bandDeviates_iff (place : Option BandProfile) (level : Nat) :
    bandDeviates place level = true ↔
      ∃ b, place = some b ∧ (b.current + b.tolerance < level ∨ level + b.tolerance < b.current) := by
  cases place with
  | none => simp [bandDeviates]
  | some b =>
    rw [show bandDeviates (some b) level = decide ((b.tolerance : Int) < ((level : Int) - b.current).natAbs) from rfl]
    simp only [decide_eq_true_eq, Option.some.injEq, exists_eq_left']
    omega

theorem hitsDeviate_iff (limit : Option Nat) (hits : Nat) :
    hitsDeviate limit hits = true ↔ ∃ l, limit = some l ∧ l < hits := by
  cases limit <;> simp [hitsDeviate]

theorem ringDeviates_iff (window : Option (Nat × Nat)) (ringDown : Option Nat) :
    ringDeviates window ringDown = true ↔ ∃ w n, window = some w ∧ ringDown = some n ∧ (n < w.1 ∨ w.2 < n) := by
  cases window <;> cases ringDown <;> simp [ringDeviates]

theorem clampActs_iff (h : MouldHeader) (place : Option BandProfile) (level : Nat) :
    clampActs h place level = true ↔
      ∃ b, place = some b ∧
        (driftTarget h.driftShift b level < driftLow h.driftLimit b ∨
          driftHigh h.driftLimit b < driftTarget h.driftShift b level) := by
  cases place <;> simp [clampActs]

theorem drifts_iff (list : List SuspectEntry) (h : MouldHeader) (slot : Fin 16) (x : SummaryEntry) :
    drifts list h slot x = true ↔
      x.verdict = .clean ∧ (∀ e ∈ list, ¬(e.slot = slot ∧ e.watchPoint = x.watchPoint)) ∧ 0 < h.driftShift := by
  simp [drifts, entryFor, SuspectEntry.names, and_assoc]

theorem listRun_append (list : List SuspectEntry) (h : MouldHeader) (slot : Fin 16) (cycle : Half) (xs : List SummaryEntry)
    (x : SummaryEntry) : listRun list h slot cycle (xs ++ [x]) = (listRun list h slot cycle xs).take h slot cycle x := by
  simp [listRun]

section
variable (silenced : BitVec 8) (h : MouldHeader) (m : Mapping) (v : VibePart)

theorem blindCauses_silent : (blindCauses silenced h m v).getLsbD 0 = silenced.getLsbD m.pod.val :=
  BitVec.getLsbD_ofBoolListLE

theorem blindCauses_few : (blindCauses silenced h m v).getLsbD 1 = decide (v.counted < h.minVibe) :=
  BitVec.getLsbD_ofBoolListLE

theorem blindCauses_gaps : (blindCauses silenced h m v).getLsbD 2 = decide (h.gapLimit < v.missing) :=
  BitVec.getLsbD_ofBoolListLE

theorem blindCauses_ne_zero :
    (blindCauses silenced h m v != 0) =
      (silenced.getLsbD m.pod.val || decide (v.counted < h.minVibe) || decide (h.gapLimit < v.missing)) := by
  unfold blindCauses
  generalize silenced.getLsbD m.pod.val = a
  generalize decide (v.counted < h.minVibe) = b
  generalize decide (h.gapLimit < v.missing) = c
  revert a b c
  decide

end

end Sys2Proof.Machine
end

