-- ==== Sys2Proof/Laws/Level.lean ====
section
/-! SUPPORT. Where the search for a band's level ends. -/

namespace Sys2Proof.Machine

/-- The search answers the upper bound's level at the first precision where the two bounds agree, or at the last (R33; log 13);
there are no bounds only where a band is out of range. -/
theorem refinedLevel_spec (counted : Nat) (h : BandHistory) (n p : Nat) :
    ∃ k, k ≤ n ∧
      refinedLevel counted h n p = ((levelBounds (2 ^ k * p) counted h).map Prod.snd).getD 0 ∧
      (∀ b, levelBounds (2 ^ k * p) counted h = some b → b.1 = b.2 ∨ k = n) ∧
      ∀ j, j < k → ∃ b, levelBounds (2 ^ j * p) counted h = some b ∧ b.1 ≠ b.2 := by
  induction n generalizing p with
  | zero =>
    refine ⟨0, le_rfl, ?_, fun _ _ => .inr rfl, nofun⟩
    cases hb : levelBounds p counted h <;> simp [refinedLevel, hb]
  | succ n ih =>
    cases hb : levelBounds p counted h with
    | none => exact ⟨0, Nat.zero_le _, by simp [refinedLevel, hb], by simp [hb], nofun⟩
    | some b =>
      by_cases e : b.1 = b.2
      · exact ⟨0, Nat.zero_le _, by simp [refinedLevel, hb, e], by simp [hb, e], nofun⟩
      · obtain ⟨k, hk, h1, h2, h3⟩ := ih (2 * p)
        have shift : ∀ j, 2 ^ (j + 1) * p = 2 ^ j * (2 * p) := fun j => by ring
        refine ⟨k + 1, by omega, by rw [shift, ← h1]; simp [refinedLevel, hb, e], ?_, ?_⟩
        · intro c hc
          rw [shift] at hc
          rcases h2 c hc with h | h
          · exact .inl h
          · exact .inr (by omega)
        · rintro (_ | j) hj
          · exact ⟨b, by simpa using hb, e⟩
          · obtain ⟨c, hc⟩ := h3 j (by omega)
            exact ⟨c, by rw [shift]; exact hc⟩

end Sys2Proof.Machine
end

