-- ==== Sys2Proof/Laws/State.lean ====
section
/-! SUPPORT. What each update of State leaves in each field: one lemma per field and update, true by rfl. -/

namespace Sys2Proof.Machine.State

variable (s : State)

@[simp] theorem setPending_pending (x : List Instr) : (s.setPending x).pending = x := rfl
@[simp] theorem setPending_engine (x : List Instr) : (s.setPending x).engine = s.engine := rfl
@[simp] theorem setPending_straps (x : List Instr) : (s.setPending x).straps = s.straps := rfl
@[simp] theorem setPending_tables (x : List Instr) : (s.setPending x).tables = s.tables := rfl
@[simp] theorem setPending_tracker (x : List Instr) : (s.setPending x).tracker = s.tracker := rfl
@[simp] theorem setPending_exam (x : List Instr) : (s.setPending x).exam = s.exam := rfl
@[simp] theorem setPending_moulds (x : List Instr) : (s.setPending x).moulds = s.moulds := rfl
@[simp] theorem setPending_monitor (x : List Instr) : (s.setPending x).monitor = s.monitor := rfl
@[simp] theorem setPending_suspects (x : List Instr) : (s.setPending x).suspects = s.suspects := rfl
@[simp] theorem setPending_verdict (x : List Instr) : (s.setPending x).verdict = s.verdict := rfl
@[simp] theorem setPending_cond (x : List Instr) : (s.setPending x).cond = s.cond := rfl
@[simp] theorem setPending_lines (x : List Instr) : (s.setPending x).lines = s.lines := rfl
@[simp] theorem setPending_portU (x : List Instr) : (s.setPending x).portU = s.portU := rfl
@[simp] theorem setPending_portD (x : List Instr) : (s.setPending x).portD = s.portD := rfl
@[simp] theorem setPending_stall (x : List Instr) : (s.setPending x).stall = s.stall := rfl
@[simp] theorem setPending_pods (x : List Instr) : (s.setPending x).pods = s.pods := rfl
@[simp] theorem setPending_paths (x : List Instr) : (s.setPending x).paths = s.paths := rfl
@[simp] theorem setPending_trace (x : List Instr) : (s.setPending x).trace = s.trace := rfl

@[simp] theorem setEngine_pending (x : Engine) : (s.setEngine x).pending = s.pending := rfl
@[simp] theorem setEngine_engine (x : Engine) : (s.setEngine x).engine = x := rfl
@[simp] theorem setEngine_straps (x : Engine) : (s.setEngine x).straps = s.straps := rfl
@[simp] theorem setEngine_tables (x : Engine) : (s.setEngine x).tables = s.tables := rfl
@[simp] theorem setEngine_tracker (x : Engine) : (s.setEngine x).tracker = s.tracker := rfl
@[simp] theorem setEngine_exam (x : Engine) : (s.setEngine x).exam = s.exam := rfl
@[simp] theorem setEngine_moulds (x : Engine) : (s.setEngine x).moulds = s.moulds := rfl
@[simp] theorem setEngine_monitor (x : Engine) : (s.setEngine x).monitor = s.monitor := rfl
@[simp] theorem setEngine_suspects (x : Engine) : (s.setEngine x).suspects = s.suspects := rfl
@[simp] theorem setEngine_verdict (x : Engine) : (s.setEngine x).verdict = s.verdict := rfl
@[simp] theorem setEngine_cond (x : Engine) : (s.setEngine x).cond = s.cond := rfl
@[simp] theorem setEngine_lines (x : Engine) : (s.setEngine x).lines = s.lines := rfl
@[simp] theorem setEngine_portU (x : Engine) : (s.setEngine x).portU = s.portU := rfl
@[simp] theorem setEngine_portD (x : Engine) : (s.setEngine x).portD = s.portD := rfl
@[simp] theorem setEngine_stall (x : Engine) : (s.setEngine x).stall = s.stall := rfl
@[simp] theorem setEngine_pods (x : Engine) : (s.setEngine x).pods = s.pods := rfl
@[simp] theorem setEngine_paths (x : Engine) : (s.setEngine x).paths = s.paths := rfl
@[simp] theorem setEngine_trace (x : Engine) : (s.setEngine x).trace = s.trace := rfl

@[simp] theorem setStraps_pending (x : Straps) : (s.setStraps x).pending = s.pending := rfl
@[simp] theorem setStraps_engine (x : Straps) : (s.setStraps x).engine = s.engine := rfl
@[simp] theorem setStraps_straps (x : Straps) : (s.setStraps x).straps = x := rfl
@[simp] theorem setStraps_tables (x : Straps) : (s.setStraps x).tables = s.tables := rfl
@[simp] theorem setStraps_tracker (x : Straps) : (s.setStraps x).tracker = s.tracker := rfl
@[simp] theorem setStraps_exam (x : Straps) : (s.setStraps x).exam = s.exam := rfl
@[simp] theorem setStraps_moulds (x : Straps) : (s.setStraps x).moulds = s.moulds := rfl
@[simp] theorem setStraps_monitor (x : Straps) : (s.setStraps x).monitor = s.monitor := rfl
@[simp] theorem setStraps_suspects (x : Straps) : (s.setStraps x).suspects = s.suspects := rfl
@[simp] theorem setStraps_verdict (x : Straps) : (s.setStraps x).verdict = s.verdict := rfl
@[simp] theorem setStraps_cond (x : Straps) : (s.setStraps x).cond = s.cond := rfl
@[simp] theorem setStraps_lines (x : Straps) : (s.setStraps x).lines = s.lines := rfl
@[simp] theorem setStraps_portU (x : Straps) : (s.setStraps x).portU = s.portU := rfl
@[simp] theorem setStraps_portD (x : Straps) : (s.setStraps x).portD = s.portD := rfl
@[simp] theorem setStraps_stall (x : Straps) : (s.setStraps x).stall = s.stall := rfl
@[simp] theorem setStraps_pods (x : Straps) : (s.setStraps x).pods = s.pods := rfl
@[simp] theorem setStraps_paths (x : Straps) : (s.setStraps x).paths = s.paths := rfl
@[simp] theorem setStraps_trace (x : Straps) : (s.setStraps x).trace = s.trace := rfl

@[simp] theorem setTables_pending (x : Tables) : (s.setTables x).pending = s.pending := rfl
@[simp] theorem setTables_engine (x : Tables) : (s.setTables x).engine = s.engine := rfl
@[simp] theorem setTables_straps (x : Tables) : (s.setTables x).straps = s.straps := rfl
@[simp] theorem setTables_tables (x : Tables) : (s.setTables x).tables = x := rfl
@[simp] theorem setTables_tracker (x : Tables) : (s.setTables x).tracker = s.tracker := rfl
@[simp] theorem setTables_exam (x : Tables) : (s.setTables x).exam = s.exam := rfl
@[simp] theorem setTables_moulds (x : Tables) : (s.setTables x).moulds = s.moulds := rfl
@[simp] theorem setTables_monitor (x : Tables) : (s.setTables x).monitor = s.monitor := rfl
@[simp] theorem setTables_suspects (x : Tables) : (s.setTables x).suspects = s.suspects := rfl
@[simp] theorem setTables_verdict (x : Tables) : (s.setTables x).verdict = s.verdict := rfl
@[simp] theorem setTables_cond (x : Tables) : (s.setTables x).cond = s.cond := rfl
@[simp] theorem setTables_lines (x : Tables) : (s.setTables x).lines = s.lines := rfl
@[simp] theorem setTables_portU (x : Tables) : (s.setTables x).portU = s.portU := rfl
@[simp] theorem setTables_portD (x : Tables) : (s.setTables x).portD = s.portD := rfl
@[simp] theorem setTables_stall (x : Tables) : (s.setTables x).stall = s.stall := rfl
@[simp] theorem setTables_pods (x : Tables) : (s.setTables x).pods = s.pods := rfl
@[simp] theorem setTables_paths (x : Tables) : (s.setTables x).paths = s.paths := rfl
@[simp] theorem setTables_trace (x : Tables) : (s.setTables x).trace = s.trace := rfl

@[simp] theorem setTracker_pending (x : Tracker) : (s.setTracker x).pending = s.pending := rfl
@[simp] theorem setTracker_engine (x : Tracker) : (s.setTracker x).engine = s.engine := rfl
@[simp] theorem setTracker_straps (x : Tracker) : (s.setTracker x).straps = s.straps := rfl
@[simp] theorem setTracker_tables (x : Tracker) : (s.setTracker x).tables = s.tables := rfl
@[simp] theorem setTracker_tracker (x : Tracker) : (s.setTracker x).tracker = x := rfl
@[simp] theorem setTracker_exam (x : Tracker) : (s.setTracker x).exam = s.exam := rfl
@[simp] theorem setTracker_moulds (x : Tracker) : (s.setTracker x).moulds = s.moulds := rfl
@[simp] theorem setTracker_monitor (x : Tracker) : (s.setTracker x).monitor = s.monitor := rfl
@[simp] theorem setTracker_suspects (x : Tracker) : (s.setTracker x).suspects = s.suspects := rfl
@[simp] theorem setTracker_verdict (x : Tracker) : (s.setTracker x).verdict = s.verdict := rfl
@[simp] theorem setTracker_cond (x : Tracker) : (s.setTracker x).cond = s.cond := rfl
@[simp] theorem setTracker_lines (x : Tracker) : (s.setTracker x).lines = s.lines := rfl
@[simp] theorem setTracker_portU (x : Tracker) : (s.setTracker x).portU = s.portU := rfl
@[simp] theorem setTracker_portD (x : Tracker) : (s.setTracker x).portD = s.portD := rfl
@[simp] theorem setTracker_stall (x : Tracker) : (s.setTracker x).stall = s.stall := rfl
@[simp] theorem setTracker_pods (x : Tracker) : (s.setTracker x).pods = s.pods := rfl
@[simp] theorem setTracker_paths (x : Tracker) : (s.setTracker x).paths = s.paths := rfl
@[simp] theorem setTracker_trace (x : Tracker) : (s.setTracker x).trace = s.trace := rfl

@[simp] theorem setExam_pending (x : List Copy) : (s.setExam x).pending = s.pending := rfl
@[simp] theorem setExam_engine (x : List Copy) : (s.setExam x).engine = s.engine := rfl
@[simp] theorem setExam_straps (x : List Copy) : (s.setExam x).straps = s.straps := rfl
@[simp] theorem setExam_tables (x : List Copy) : (s.setExam x).tables = s.tables := rfl
@[simp] theorem setExam_tracker (x : List Copy) : (s.setExam x).tracker = s.tracker := rfl
@[simp] theorem setExam_exam (x : List Copy) : (s.setExam x).exam = x := rfl
@[simp] theorem setExam_moulds (x : List Copy) : (s.setExam x).moulds = s.moulds := rfl
@[simp] theorem setExam_monitor (x : List Copy) : (s.setExam x).monitor = s.monitor := rfl
@[simp] theorem setExam_suspects (x : List Copy) : (s.setExam x).suspects = s.suspects := rfl
@[simp] theorem setExam_verdict (x : List Copy) : (s.setExam x).verdict = s.verdict := rfl
@[simp] theorem setExam_cond (x : List Copy) : (s.setExam x).cond = s.cond := rfl
@[simp] theorem setExam_lines (x : List Copy) : (s.setExam x).lines = s.lines := rfl
@[simp] theorem setExam_portU (x : List Copy) : (s.setExam x).portU = s.portU := rfl
@[simp] theorem setExam_portD (x : List Copy) : (s.setExam x).portD = s.portD := rfl
@[simp] theorem setExam_stall (x : List Copy) : (s.setExam x).stall = s.stall := rfl
@[simp] theorem setExam_pods (x : List Copy) : (s.setExam x).pods = s.pods := rfl
@[simp] theorem setExam_paths (x : List Copy) : (s.setExam x).paths = s.paths := rfl
@[simp] theorem setExam_trace (x : List Copy) : (s.setExam x).trace = s.trace := rfl

@[simp] theorem setMoulds_pending (x : Vector (Option MouldRecord) 16) : (s.setMoulds x).pending = s.pending := rfl
@[simp] theorem setMoulds_engine (x : Vector (Option MouldRecord) 16) : (s.setMoulds x).engine = s.engine := rfl
@[simp] theorem setMoulds_straps (x : Vector (Option MouldRecord) 16) : (s.setMoulds x).straps = s.straps := rfl
@[simp] theorem setMoulds_tables (x : Vector (Option MouldRecord) 16) : (s.setMoulds x).tables = s.tables := rfl
@[simp] theorem setMoulds_tracker (x : Vector (Option MouldRecord) 16) : (s.setMoulds x).tracker = s.tracker := rfl
@[simp] theorem setMoulds_exam (x : Vector (Option MouldRecord) 16) : (s.setMoulds x).exam = s.exam := rfl
@[simp] theorem setMoulds_moulds (x : Vector (Option MouldRecord) 16) : (s.setMoulds x).moulds = x := rfl
@[simp] theorem setMoulds_monitor (x : Vector (Option MouldRecord) 16) : (s.setMoulds x).monitor = s.monitor := rfl
@[simp] theorem setMoulds_suspects (x : Vector (Option MouldRecord) 16) : (s.setMoulds x).suspects = s.suspects := rfl
@[simp] theorem setMoulds_verdict (x : Vector (Option MouldRecord) 16) : (s.setMoulds x).verdict = s.verdict := rfl
@[simp] theorem setMoulds_cond (x : Vector (Option MouldRecord) 16) : (s.setMoulds x).cond = s.cond := rfl
@[simp] theorem setMoulds_lines (x : Vector (Option MouldRecord) 16) : (s.setMoulds x).lines = s.lines := rfl
@[simp] theorem setMoulds_portU (x : Vector (Option MouldRecord) 16) : (s.setMoulds x).portU = s.portU := rfl
@[simp] theorem setMoulds_portD (x : Vector (Option MouldRecord) 16) : (s.setMoulds x).portD = s.portD := rfl
@[simp] theorem setMoulds_stall (x : Vector (Option MouldRecord) 16) : (s.setMoulds x).stall = s.stall := rfl
@[simp] theorem setMoulds_pods (x : Vector (Option MouldRecord) 16) : (s.setMoulds x).pods = s.pods := rfl
@[simp] theorem setMoulds_paths (x : Vector (Option MouldRecord) 16) : (s.setMoulds x).paths = s.paths := rfl
@[simp] theorem setMoulds_trace (x : Vector (Option MouldRecord) 16) : (s.setMoulds x).trace = s.trace := rfl

@[simp] theorem setMonitor_pending (x : Monitor) : (s.setMonitor x).pending = s.pending := rfl
@[simp] theorem setMonitor_engine (x : Monitor) : (s.setMonitor x).engine = s.engine := rfl
@[simp] theorem setMonitor_straps (x : Monitor) : (s.setMonitor x).straps = s.straps := rfl
@[simp] theorem setMonitor_tables (x : Monitor) : (s.setMonitor x).tables = s.tables := rfl
@[simp] theorem setMonitor_tracker (x : Monitor) : (s.setMonitor x).tracker = s.tracker := rfl
@[simp] theorem setMonitor_exam (x : Monitor) : (s.setMonitor x).exam = s.exam := rfl
@[simp] theorem setMonitor_moulds (x : Monitor) : (s.setMonitor x).moulds = s.moulds := rfl
@[simp] theorem setMonitor_monitor (x : Monitor) : (s.setMonitor x).monitor = x := rfl
@[simp] theorem setMonitor_suspects (x : Monitor) : (s.setMonitor x).suspects = s.suspects := rfl
@[simp] theorem setMonitor_verdict (x : Monitor) : (s.setMonitor x).verdict = s.verdict := rfl
@[simp] theorem setMonitor_cond (x : Monitor) : (s.setMonitor x).cond = s.cond := rfl
@[simp] theorem setMonitor_lines (x : Monitor) : (s.setMonitor x).lines = s.lines := rfl
@[simp] theorem setMonitor_portU (x : Monitor) : (s.setMonitor x).portU = s.portU := rfl
@[simp] theorem setMonitor_portD (x : Monitor) : (s.setMonitor x).portD = s.portD := rfl
@[simp] theorem setMonitor_stall (x : Monitor) : (s.setMonitor x).stall = s.stall := rfl
@[simp] theorem setMonitor_pods (x : Monitor) : (s.setMonitor x).pods = s.pods := rfl
@[simp] theorem setMonitor_paths (x : Monitor) : (s.setMonitor x).paths = s.paths := rfl
@[simp] theorem setMonitor_trace (x : Monitor) : (s.setMonitor x).trace = s.trace := rfl

@[simp] theorem setSuspects_pending (x : List SuspectEntry) : (s.setSuspects x).pending = s.pending := rfl
@[simp] theorem setSuspects_engine (x : List SuspectEntry) : (s.setSuspects x).engine = s.engine := rfl
@[simp] theorem setSuspects_straps (x : List SuspectEntry) : (s.setSuspects x).straps = s.straps := rfl
@[simp] theorem setSuspects_tables (x : List SuspectEntry) : (s.setSuspects x).tables = s.tables := rfl
@[simp] theorem setSuspects_tracker (x : List SuspectEntry) : (s.setSuspects x).tracker = s.tracker := rfl
@[simp] theorem setSuspects_exam (x : List SuspectEntry) : (s.setSuspects x).exam = s.exam := rfl
@[simp] theorem setSuspects_moulds (x : List SuspectEntry) : (s.setSuspects x).moulds = s.moulds := rfl
@[simp] theorem setSuspects_monitor (x : List SuspectEntry) : (s.setSuspects x).monitor = s.monitor := rfl
@[simp] theorem setSuspects_suspects (x : List SuspectEntry) : (s.setSuspects x).suspects = x := rfl
@[simp] theorem setSuspects_verdict (x : List SuspectEntry) : (s.setSuspects x).verdict = s.verdict := rfl
@[simp] theorem setSuspects_cond (x : List SuspectEntry) : (s.setSuspects x).cond = s.cond := rfl
@[simp] theorem setSuspects_lines (x : List SuspectEntry) : (s.setSuspects x).lines = s.lines := rfl
@[simp] theorem setSuspects_portU (x : List SuspectEntry) : (s.setSuspects x).portU = s.portU := rfl
@[simp] theorem setSuspects_portD (x : List SuspectEntry) : (s.setSuspects x).portD = s.portD := rfl
@[simp] theorem setSuspects_stall (x : List SuspectEntry) : (s.setSuspects x).stall = s.stall := rfl
@[simp] theorem setSuspects_pods (x : List SuspectEntry) : (s.setSuspects x).pods = s.pods := rfl
@[simp] theorem setSuspects_paths (x : List SuspectEntry) : (s.setSuspects x).paths = s.paths := rfl
@[simp] theorem setSuspects_trace (x : List SuspectEntry) : (s.setSuspects x).trace = s.trace := rfl

@[simp] theorem setVerdict_pending (x : VerdictUnit) : (s.setVerdict x).pending = s.pending := rfl
@[simp] theorem setVerdict_engine (x : VerdictUnit) : (s.setVerdict x).engine = s.engine := rfl
@[simp] theorem setVerdict_straps (x : VerdictUnit) : (s.setVerdict x).straps = s.straps := rfl
@[simp] theorem setVerdict_tables (x : VerdictUnit) : (s.setVerdict x).tables = s.tables := rfl
@[simp] theorem setVerdict_tracker (x : VerdictUnit) : (s.setVerdict x).tracker = s.tracker := rfl
@[simp] theorem setVerdict_exam (x : VerdictUnit) : (s.setVerdict x).exam = s.exam := rfl
@[simp] theorem setVerdict_moulds (x : VerdictUnit) : (s.setVerdict x).moulds = s.moulds := rfl
@[simp] theorem setVerdict_monitor (x : VerdictUnit) : (s.setVerdict x).monitor = s.monitor := rfl
@[simp] theorem setVerdict_suspects (x : VerdictUnit) : (s.setVerdict x).suspects = s.suspects := rfl
@[simp] theorem setVerdict_verdict (x : VerdictUnit) : (s.setVerdict x).verdict = x := rfl
@[simp] theorem setVerdict_cond (x : VerdictUnit) : (s.setVerdict x).cond = s.cond := rfl
@[simp] theorem setVerdict_lines (x : VerdictUnit) : (s.setVerdict x).lines = s.lines := rfl
@[simp] theorem setVerdict_portU (x : VerdictUnit) : (s.setVerdict x).portU = s.portU := rfl
@[simp] theorem setVerdict_portD (x : VerdictUnit) : (s.setVerdict x).portD = s.portD := rfl
@[simp] theorem setVerdict_stall (x : VerdictUnit) : (s.setVerdict x).stall = s.stall := rfl
@[simp] theorem setVerdict_pods (x : VerdictUnit) : (s.setVerdict x).pods = s.pods := rfl
@[simp] theorem setVerdict_paths (x : VerdictUnit) : (s.setVerdict x).paths = s.paths := rfl
@[simp] theorem setVerdict_trace (x : VerdictUnit) : (s.setVerdict x).trace = s.trace := rfl

@[simp] theorem setCond_pending (x : Conditions) : (s.setCond x).pending = s.pending := rfl
@[simp] theorem setCond_engine (x : Conditions) : (s.setCond x).engine = s.engine := rfl
@[simp] theorem setCond_straps (x : Conditions) : (s.setCond x).straps = s.straps := rfl
@[simp] theorem setCond_tables (x : Conditions) : (s.setCond x).tables = s.tables := rfl
@[simp] theorem setCond_tracker (x : Conditions) : (s.setCond x).tracker = s.tracker := rfl
@[simp] theorem setCond_exam (x : Conditions) : (s.setCond x).exam = s.exam := rfl
@[simp] theorem setCond_moulds (x : Conditions) : (s.setCond x).moulds = s.moulds := rfl
@[simp] theorem setCond_monitor (x : Conditions) : (s.setCond x).monitor = s.monitor := rfl
@[simp] theorem setCond_suspects (x : Conditions) : (s.setCond x).suspects = s.suspects := rfl
@[simp] theorem setCond_verdict (x : Conditions) : (s.setCond x).verdict = s.verdict := rfl
@[simp] theorem setCond_cond (x : Conditions) : (s.setCond x).cond = x := rfl
@[simp] theorem setCond_lines (x : Conditions) : (s.setCond x).lines = s.lines := rfl
@[simp] theorem setCond_portU (x : Conditions) : (s.setCond x).portU = s.portU := rfl
@[simp] theorem setCond_portD (x : Conditions) : (s.setCond x).portD = s.portD := rfl
@[simp] theorem setCond_stall (x : Conditions) : (s.setCond x).stall = s.stall := rfl
@[simp] theorem setCond_pods (x : Conditions) : (s.setCond x).pods = s.pods := rfl
@[simp] theorem setCond_paths (x : Conditions) : (s.setCond x).paths = s.paths := rfl
@[simp] theorem setCond_trace (x : Conditions) : (s.setCond x).trace = s.trace := rfl

@[simp] theorem setLines_pending (x : Lines) : (s.setLines x).pending = s.pending := rfl
@[simp] theorem setLines_engine (x : Lines) : (s.setLines x).engine = s.engine := rfl
@[simp] theorem setLines_straps (x : Lines) : (s.setLines x).straps = s.straps := rfl
@[simp] theorem setLines_tables (x : Lines) : (s.setLines x).tables = s.tables := rfl
@[simp] theorem setLines_tracker (x : Lines) : (s.setLines x).tracker = s.tracker := rfl
@[simp] theorem setLines_exam (x : Lines) : (s.setLines x).exam = s.exam := rfl
@[simp] theorem setLines_moulds (x : Lines) : (s.setLines x).moulds = s.moulds := rfl
@[simp] theorem setLines_monitor (x : Lines) : (s.setLines x).monitor = s.monitor := rfl
@[simp] theorem setLines_suspects (x : Lines) : (s.setLines x).suspects = s.suspects := rfl
@[simp] theorem setLines_verdict (x : Lines) : (s.setLines x).verdict = s.verdict := rfl
@[simp] theorem setLines_cond (x : Lines) : (s.setLines x).cond = s.cond := rfl
@[simp] theorem setLines_lines (x : Lines) : (s.setLines x).lines = x := rfl
@[simp] theorem setLines_portU (x : Lines) : (s.setLines x).portU = s.portU := rfl
@[simp] theorem setLines_portD (x : Lines) : (s.setLines x).portD = s.portD := rfl
@[simp] theorem setLines_stall (x : Lines) : (s.setLines x).stall = s.stall := rfl
@[simp] theorem setLines_pods (x : Lines) : (s.setLines x).pods = s.pods := rfl
@[simp] theorem setLines_paths (x : Lines) : (s.setLines x).paths = s.paths := rfl
@[simp] theorem setLines_trace (x : Lines) : (s.setLines x).trace = s.trace := rfl

@[simp] theorem setPortU_pending (x : LinkPort) : (s.setPortU x).pending = s.pending := rfl
@[simp] theorem setPortU_engine (x : LinkPort) : (s.setPortU x).engine = s.engine := rfl
@[simp] theorem setPortU_straps (x : LinkPort) : (s.setPortU x).straps = s.straps := rfl
@[simp] theorem setPortU_tables (x : LinkPort) : (s.setPortU x).tables = s.tables := rfl
@[simp] theorem setPortU_tracker (x : LinkPort) : (s.setPortU x).tracker = s.tracker := rfl
@[simp] theorem setPortU_exam (x : LinkPort) : (s.setPortU x).exam = s.exam := rfl
@[simp] theorem setPortU_moulds (x : LinkPort) : (s.setPortU x).moulds = s.moulds := rfl
@[simp] theorem setPortU_monitor (x : LinkPort) : (s.setPortU x).monitor = s.monitor := rfl
@[simp] theorem setPortU_suspects (x : LinkPort) : (s.setPortU x).suspects = s.suspects := rfl
@[simp] theorem setPortU_verdict (x : LinkPort) : (s.setPortU x).verdict = s.verdict := rfl
@[simp] theorem setPortU_cond (x : LinkPort) : (s.setPortU x).cond = s.cond := rfl
@[simp] theorem setPortU_lines (x : LinkPort) : (s.setPortU x).lines = s.lines := rfl
@[simp] theorem setPortU_portU (x : LinkPort) : (s.setPortU x).portU = x := rfl
@[simp] theorem setPortU_portD (x : LinkPort) : (s.setPortU x).portD = s.portD := rfl
@[simp] theorem setPortU_stall (x : LinkPort) : (s.setPortU x).stall = s.stall := rfl
@[simp] theorem setPortU_pods (x : LinkPort) : (s.setPortU x).pods = s.pods := rfl
@[simp] theorem setPortU_paths (x : LinkPort) : (s.setPortU x).paths = s.paths := rfl
@[simp] theorem setPortU_trace (x : LinkPort) : (s.setPortU x).trace = s.trace := rfl

@[simp] theorem setPortD_pending (x : LinkPort) : (s.setPortD x).pending = s.pending := rfl
@[simp] theorem setPortD_engine (x : LinkPort) : (s.setPortD x).engine = s.engine := rfl
@[simp] theorem setPortD_straps (x : LinkPort) : (s.setPortD x).straps = s.straps := rfl
@[simp] theorem setPortD_tables (x : LinkPort) : (s.setPortD x).tables = s.tables := rfl
@[simp] theorem setPortD_tracker (x : LinkPort) : (s.setPortD x).tracker = s.tracker := rfl
@[simp] theorem setPortD_exam (x : LinkPort) : (s.setPortD x).exam = s.exam := rfl
@[simp] theorem setPortD_moulds (x : LinkPort) : (s.setPortD x).moulds = s.moulds := rfl
@[simp] theorem setPortD_monitor (x : LinkPort) : (s.setPortD x).monitor = s.monitor := rfl
@[simp] theorem setPortD_suspects (x : LinkPort) : (s.setPortD x).suspects = s.suspects := rfl
@[simp] theorem setPortD_verdict (x : LinkPort) : (s.setPortD x).verdict = s.verdict := rfl
@[simp] theorem setPortD_cond (x : LinkPort) : (s.setPortD x).cond = s.cond := rfl
@[simp] theorem setPortD_lines (x : LinkPort) : (s.setPortD x).lines = s.lines := rfl
@[simp] theorem setPortD_portU (x : LinkPort) : (s.setPortD x).portU = s.portU := rfl
@[simp] theorem setPortD_portD (x : LinkPort) : (s.setPortD x).portD = x := rfl
@[simp] theorem setPortD_stall (x : LinkPort) : (s.setPortD x).stall = s.stall := rfl
@[simp] theorem setPortD_pods (x : LinkPort) : (s.setPortD x).pods = s.pods := rfl
@[simp] theorem setPortD_paths (x : LinkPort) : (s.setPortD x).paths = s.paths := rfl
@[simp] theorem setPortD_trace (x : LinkPort) : (s.setPortD x).trace = s.trace := rfl

@[simp] theorem setStall_pending (x : Stall) : (s.setStall x).pending = s.pending := rfl
@[simp] theorem setStall_engine (x : Stall) : (s.setStall x).engine = s.engine := rfl
@[simp] theorem setStall_straps (x : Stall) : (s.setStall x).straps = s.straps := rfl
@[simp] theorem setStall_tables (x : Stall) : (s.setStall x).tables = s.tables := rfl
@[simp] theorem setStall_tracker (x : Stall) : (s.setStall x).tracker = s.tracker := rfl
@[simp] theorem setStall_exam (x : Stall) : (s.setStall x).exam = s.exam := rfl
@[simp] theorem setStall_moulds (x : Stall) : (s.setStall x).moulds = s.moulds := rfl
@[simp] theorem setStall_monitor (x : Stall) : (s.setStall x).monitor = s.monitor := rfl
@[simp] theorem setStall_suspects (x : Stall) : (s.setStall x).suspects = s.suspects := rfl
@[simp] theorem setStall_verdict (x : Stall) : (s.setStall x).verdict = s.verdict := rfl
@[simp] theorem setStall_cond (x : Stall) : (s.setStall x).cond = s.cond := rfl
@[simp] theorem setStall_lines (x : Stall) : (s.setStall x).lines = s.lines := rfl
@[simp] theorem setStall_portU (x : Stall) : (s.setStall x).portU = s.portU := rfl
@[simp] theorem setStall_portD (x : Stall) : (s.setStall x).portD = s.portD := rfl
@[simp] theorem setStall_stall (x : Stall) : (s.setStall x).stall = x := rfl
@[simp] theorem setStall_pods (x : Stall) : (s.setStall x).pods = s.pods := rfl
@[simp] theorem setStall_paths (x : Stall) : (s.setStall x).paths = s.paths := rfl
@[simp] theorem setStall_trace (x : Stall) : (s.setStall x).trace = s.trace := rfl

@[simp] theorem setPods_pending (x : Vector Pod 8) : (s.setPods x).pending = s.pending := rfl
@[simp] theorem setPods_engine (x : Vector Pod 8) : (s.setPods x).engine = s.engine := rfl
@[simp] theorem setPods_straps (x : Vector Pod 8) : (s.setPods x).straps = s.straps := rfl
@[simp] theorem setPods_tables (x : Vector Pod 8) : (s.setPods x).tables = s.tables := rfl
@[simp] theorem setPods_tracker (x : Vector Pod 8) : (s.setPods x).tracker = s.tracker := rfl
@[simp] theorem setPods_exam (x : Vector Pod 8) : (s.setPods x).exam = s.exam := rfl
@[simp] theorem setPods_moulds (x : Vector Pod 8) : (s.setPods x).moulds = s.moulds := rfl
@[simp] theorem setPods_monitor (x : Vector Pod 8) : (s.setPods x).monitor = s.monitor := rfl
@[simp] theorem setPods_suspects (x : Vector Pod 8) : (s.setPods x).suspects = s.suspects := rfl
@[simp] theorem setPods_verdict (x : Vector Pod 8) : (s.setPods x).verdict = s.verdict := rfl
@[simp] theorem setPods_cond (x : Vector Pod 8) : (s.setPods x).cond = s.cond := rfl
@[simp] theorem setPods_lines (x : Vector Pod 8) : (s.setPods x).lines = s.lines := rfl
@[simp] theorem setPods_portU (x : Vector Pod 8) : (s.setPods x).portU = s.portU := rfl
@[simp] theorem setPods_portD (x : Vector Pod 8) : (s.setPods x).portD = s.portD := rfl
@[simp] theorem setPods_stall (x : Vector Pod 8) : (s.setPods x).stall = s.stall := rfl
@[simp] theorem setPods_pods (x : Vector Pod 8) : (s.setPods x).pods = x := rfl
@[simp] theorem setPods_paths (x : Vector Pod 8) : (s.setPods x).paths = s.paths := rfl
@[simp] theorem setPods_trace (x : Vector Pod 8) : (s.setPods x).trace = s.trace := rfl

@[simp] theorem setPaths_pending (x : Paths) : (s.setPaths x).pending = s.pending := rfl
@[simp] theorem setPaths_engine (x : Paths) : (s.setPaths x).engine = s.engine := rfl
@[simp] theorem setPaths_straps (x : Paths) : (s.setPaths x).straps = s.straps := rfl
@[simp] theorem setPaths_tables (x : Paths) : (s.setPaths x).tables = s.tables := rfl
@[simp] theorem setPaths_tracker (x : Paths) : (s.setPaths x).tracker = s.tracker := rfl
@[simp] theorem setPaths_exam (x : Paths) : (s.setPaths x).exam = s.exam := rfl
@[simp] theorem setPaths_moulds (x : Paths) : (s.setPaths x).moulds = s.moulds := rfl
@[simp] theorem setPaths_monitor (x : Paths) : (s.setPaths x).monitor = s.monitor := rfl
@[simp] theorem setPaths_suspects (x : Paths) : (s.setPaths x).suspects = s.suspects := rfl
@[simp] theorem setPaths_verdict (x : Paths) : (s.setPaths x).verdict = s.verdict := rfl
@[simp] theorem setPaths_cond (x : Paths) : (s.setPaths x).cond = s.cond := rfl
@[simp] theorem setPaths_lines (x : Paths) : (s.setPaths x).lines = s.lines := rfl
@[simp] theorem setPaths_portU (x : Paths) : (s.setPaths x).portU = s.portU := rfl
@[simp] theorem setPaths_portD (x : Paths) : (s.setPaths x).portD = s.portD := rfl
@[simp] theorem setPaths_stall (x : Paths) : (s.setPaths x).stall = s.stall := rfl
@[simp] theorem setPaths_pods (x : Paths) : (s.setPaths x).pods = s.pods := rfl
@[simp] theorem setPaths_paths (x : Paths) : (s.setPaths x).paths = x := rfl
@[simp] theorem setPaths_trace (x : Paths) : (s.setPaths x).trace = s.trace := rfl

@[simp] theorem setTrace_pending (x : Trace) : (s.setTrace x).pending = s.pending := rfl
@[simp] theorem setTrace_engine (x : Trace) : (s.setTrace x).engine = s.engine := rfl
@[simp] theorem setTrace_straps (x : Trace) : (s.setTrace x).straps = s.straps := rfl
@[simp] theorem setTrace_tables (x : Trace) : (s.setTrace x).tables = s.tables := rfl
@[simp] theorem setTrace_tracker (x : Trace) : (s.setTrace x).tracker = s.tracker := rfl
@[simp] theorem setTrace_exam (x : Trace) : (s.setTrace x).exam = s.exam := rfl
@[simp] theorem setTrace_moulds (x : Trace) : (s.setTrace x).moulds = s.moulds := rfl
@[simp] theorem setTrace_monitor (x : Trace) : (s.setTrace x).monitor = s.monitor := rfl
@[simp] theorem setTrace_suspects (x : Trace) : (s.setTrace x).suspects = s.suspects := rfl
@[simp] theorem setTrace_verdict (x : Trace) : (s.setTrace x).verdict = s.verdict := rfl
@[simp] theorem setTrace_cond (x : Trace) : (s.setTrace x).cond = s.cond := rfl
@[simp] theorem setTrace_lines (x : Trace) : (s.setTrace x).lines = s.lines := rfl
@[simp] theorem setTrace_portU (x : Trace) : (s.setTrace x).portU = s.portU := rfl
@[simp] theorem setTrace_portD (x : Trace) : (s.setTrace x).portD = s.portD := rfl
@[simp] theorem setTrace_stall (x : Trace) : (s.setTrace x).stall = s.stall := rfl
@[simp] theorem setTrace_pods (x : Trace) : (s.setTrace x).pods = s.pods := rfl
@[simp] theorem setTrace_paths (x : Trace) : (s.setTrace x).paths = s.paths := rfl
@[simp] theorem setTrace_trace (x : Trace) : (s.setTrace x).trace = x := rfl

end Sys2Proof.Machine.State
end

