-- ==== Sys2Proof/Laws/Links.lean ====
section
/-! SUPPORT. What the receivers do: the ports as a state holds them, runs of data symbols, and the receive checks. -/

namespace Sys2Proof.Machine

namespace State

/-! ### Ports -/

theorem port_setPort (s : State) (p : Port) (x : LinkPort) : (s.setPort p x).port p = x := by cases p <;> rfl

theorem setPort_setPort (s : State) (p : Port) (x y : LinkPort) : (s.setPort p x).setPort p y = s.setPort p y := by
  cases p <;> rfl

theorem setPort_port (s : State) (p : Port) : s.setPort p (s.port p) = s := by cases p <;> rfl

theorem port_raise (s : State) (p : Port) (c : Condition) : (s.raise c).port p = s.port p := by cases p <;> rfl

theorem framing_setFraming (s : State) (p : Port) (x : Framing) : ((s.setFraming p x).port p).framing = x := by
  cases p <;> rfl

theorem setFraming_setFraming (s : State) (p : Port) (x y : Framing) :
    (s.setFraming p x).setFraming p y = s.setFraming p y := by cases p <;> rfl

theorem setFraming_framing (s : State) (p : Port) : s.setFraming p (s.port p).framing = s := by cases p <;> rfl

theorem setFraming_raise (s : State) (p : Port) (x : Framing) (c : Condition) :
    (s.raise c).setFraming p x = (s.setFraming p x).raise c := by cases p <;> rfl

theorem raise_raise (s : State) (c : Condition) : (s.raise c).raise c = s.raise c := by
  simp [raise, setCond, BitVec.or_assoc]

theorem heard_eq (s : State) (p : Port) (x : Framing) : s.heard p x = (s.symbolArrives p).setFraming p x := by
  cases p <;> rfl

theorem framing_symbolArrives (s : State) (p : Port) : ((s.symbolArrives p).port p).framing = (s.port p).framing := by
  cases p <;> rfl

/-! ### Runs of data symbols -/

theorem receiveData_between {s : State} {p : Port} (h : (s.port p).framing = .between) (b : Byte) :
    s.receiveData p b = s.raise .linkFault := by simp [receiveData, h]

theorem receiveData_discarding {s : State} {p : Port} (h : (s.port p).framing = .discarding) (b : Byte) :
    s.receiveData p b = s := by simp [receiveData, h]

theorem receiveData_inFrame {s : State} {p : Port} {bytes : List Byte} (h : (s.port p).framing = .inFrame bytes) (b : Byte) :
    s.receiveData p b =
      if bytes.length < 246 then s.setFraming p (.inFrame (bytes ++ [b])) else (s.setFraming p .discarding).raise .linkFault := by
  simp [receiveData, h, Config.maxFrame, setFraming_raise]

theorem dataRun_discarding {s : State} {p : Port} (h : (s.port p).framing = .discarding) (data : List Byte) :
    data.foldl (fun u b => u.receiveData p b) s = s := by
  induction data with
  | nil => rfl
  | cons b bs ih => rw [List.foldl_cons, receiveData_discarding h, ih]

theorem dataRun_between {s : State} {p : Port} (h : (s.port p).framing = .between) (data : List Byte) :
    data.foldl (fun u b => u.receiveData p b) s = if data = [] then s else s.raise .linkFault := by
  induction data generalizing s with
  | nil => rfl
  | cons b bs ih =>
    rw [List.foldl_cons, receiveData_between h, ih (by rw [port_raise]; exact h), raise_raise]
    simp

/-- Data that fits joins the frame in progress. -/
theorem dataRun_fits {s : State} {p : Port} {before : List Byte} (h : (s.port p).framing = .inFrame before) (data : List Byte)
    (hl : (before ++ data).length ≤ 246) :
    data.foldl (fun u b => u.receiveData p b) s = s.setFraming p (.inFrame (before ++ data)) := by
  induction data generalizing s before with
  | nil => rw [List.foldl_nil, List.append_nil, ← h, setFraming_framing]
  | cons b bs ih =>
    have hb : before.length < 246 := by simp at hl; omega
    rw [List.foldl_cons, receiveData_inFrame h, if_pos hb, ih (framing_setFraming _ _ _) (by simpa using hl),
      setFraming_setFraming]
    simp

/-- Data beyond 246 bytes discards the frame in progress. -/
theorem dataRun_overlong {s : State} {p : Port} {before : List Byte} (h : (s.port p).framing = .inFrame before)
    (hb : before.length ≤ 246) (data : List Byte) (hl : 246 < (before ++ data).length) :
    data.foldl (fun u b => u.receiveData p b) s = (s.setFraming p .discarding).raise .linkFault := by
  induction data generalizing s before with
  | nil => simp at hl; omega
  | cons b bs ih =>
    rw [List.foldl_cons, receiveData_inFrame h]
    split
    · rename_i hlt
      rw [ih (framing_setFraming _ _ _) (by simp; omega) (by simpa using hl), setFraming_setFraming]
    · rw [dataRun_discarding (by rw [port_raise, framing_setFraming])]

end State

/-! ### The receive checks -/

theorem append_of_two_le {α : Type} (xs : List α) (h : 2 ≤ xs.length) : ∃ pre x y, xs = pre ++ [x, y] := by
  rcases List.eq_nil_or_concat xs with rfl | ⟨l, y, rfl⟩
  · simp at h
  · rcases List.eq_nil_or_concat l with rfl | ⟨l, x, rfl⟩
    · simp at h
    · exact ⟨l, x, y, by simp⟩

/-- A two-byte number equals the two bytes it is written in. -/
theorem enc16_eq_iff (r : Half) (x y : Byte) : [x, y] = enc16 r.toNat ↔ r.toNat = x.toNat * 256 + y.toNat := by
  have hx := x.isLt
  have hy := y.isLt
  have hr := r.isLt
  constructor
  · intro h
    simp [enc16, BitVec.toNat_eq] at h
    omega
  · intro h
    simp [enc16, BitVec.toNat_eq]
    omega

/-- The receive checks as R135 lists them. -/
theorem goodFrame_iff (bytes : List Byte) : goodFrame bytes = true ↔ PassesChecks bytes := by
  unfold goodFrame PassesChecks
  simp only [Bool.and_eq_true, decide_eq_true_eq, beq_iff_eq, Config.maxPayload, byteAt, and_assoc]
  refine and_congr_right fun h1 => and_congr decide_eq_true_iff (and_congr_right fun _ => ?_)
  obtain ⟨pre, x, y, rfl⟩ := append_of_two_le bytes (by omega)
  have ht : (pre ++ [x, y]).length - 2 = pre.length := by simp
  rw [ht, List.take_left, List.drop_left, enc16_eq_iff]
  simp [halfAt, byteAt]

/-! ### Addresses and directions -/

theorem isStation_iff (a : Byte) :
    isStation a = true ↔ a.toNat ∈ [0, 1, 2, 3, 4, 5, 6, 7, 8, 16, 17, 18, 19, 20, 21, 22, 23, 31] := by
  revert a
  decide

theorem isStation_source_iff (a : Byte) :
    (isStation a = true ∧ a ≠ 31) ↔ a.toNat ∈ [0, 1, 2, 3, 4, 5, 6, 7, 8, 16, 17, 18, 19, 20, 21, 22, 23] := by
  revert a
  decide

namespace State

theorem station_toNat (s : State) : s.station.toNat = 16 + s.straps.sta.toNat := by
  have := s.straps.sta.isLt
  simp [station, Straps.station]
  omega

/-- The station address check of R138. -/
theorem misaddressed_iff (s : State) (f : Frame) : s.misaddressed f = true ↔ ¬AddressesStand s f := by
  unfold AddressesStand
  rw [← isStation_iff, ← isStation_source_iff, ← station_toNat]
  simp [misaddressed, BitVec.toNat_inj, addrAll]
  cases isStation f.source <;> cases isStation f.dest <;> simp
  tauto

/-- The direction check of R149 on port U. -/
theorem illegalOnU_iff (s : State) (f : Frame) : s.illegalOnU f = true ↔ ¬LegalOnU s f := by
  unfold LegalOnU
  rw [← station_toNat]
  simp [illegalOnU, BitVec.toNat_inj, isPodAddr, inRange, addrController, kindMark]
  by_cases h1 : 1 ≤ f.dest.toNat <;> by_cases h2 : f.dest.toNat ≤ 8 <;> by_cases h3 : 8 < f.dest.toNat <;>
    simp [h1, h2, h3] <;> first | omega | tauto

/-- The direction check of R149 on port D. -/
theorem illegalOnD_iff (f : Frame) : illegalOnD f = true ↔ ¬LegalOnD f := by
  unfold LegalOnD
  simp [illegalOnD, isPodAddr, inRange, addrController]
  tauto

/-- The straps are no part of what a pod monitor writes. -/
theorem podHears_straps (s : State) (f : Frame) : (s.podHears f).straps = s.straps := by
  simp only [podHears]
  split
  · simp only [speaksFor]
    split <;> rfl
  · rfl

/-- An examination copy changes the examination queue or the conditions, and nothing else. -/
theorem offerCopy_frame (s : State) (f : Frame) : ∃ exam cond, s.offerCopy f = { s with exam := exam, cond := cond } := by
  simp only [offerCopy]
  split
  · split
    · exact ⟨_, _, rfl⟩
    · exact ⟨_, _, rfl⟩
  · exact ⟨_, _, rfl⟩

end State

/-- A completed frame is handed on if it passes the receive checks, and is discarded with LINK FAULT if it does not (R135). -/
theorem frameReceived_completes {s : State} {p : Port} {data bytes : List Byte} (h : Completes s p data bytes) :
    execFrameReceived p data s =
      .next (State.settle s
        (if goodFrame bytes then (s.heard p .between).handOn p (frameOf bytes)
         else (s.heard p .between).raise .linkFault)) := by
  obtain ⟨before, h1, rfl, h3⟩ := h
  unfold execFrameReceived stepped
  beta_reduce
  rw [State.dataRun_fits (by rw [State.framing_symbolArrives]; exact h1) _ h3]
  simp only [State.receiveEnd, State.framing_setFraming, State.setFraming_setFraming]
  simp only [← State.heard_eq]

/-- The samples of a Sample frame's payload, two bytes each from offset 4 (R193). -/
theorem samplesOf_eq (payload : List Byte) :
    samplesOf payload = (List.range 32).map fun k => payload.getD (4 + 2 * k) 0 ++ payload.getD (5 + 2 * k) 0 := by
  unfold samplesOf
  refine List.map_congr_left fun k _ => BitVec.eq_of_toNat_eq ?_
  have h1 := (payload.getD (4 + 2 * k) 0).isLt
  have h2 := (payload.getD (5 + 2 * k) 0).isLt
  rw [BitVec.toNat_append, ← Nat.shiftLeft_add_eq_or_of_lt h2, Nat.shiftLeft_eq, BitVec.toNat_ofNat]
  simp only [halfAt, byteAt, show 4 + 2 * k + 1 = 5 + 2 * k by omega]
  omega

end Sys2Proof.Machine
end

