-- ==== Sys2Proof/Laws/Ops.lean ====
section
/-! SUPPORT. One lemma for each shared operation: what it does, for the provers to cite. -/

namespace Sys2Proof.Machine

/-! ### Conditions and sets -/

theorem Condition.isIn_or (c : Condition) (x y : CondSet) : c.isIn (x ||| y) = (c.isIn x || c.isIn y) := by
  simp [Condition.isIn]

theorem Condition.isIn_and (c : Condition) (x y : CondSet) : c.isIn (x &&& y) = (c.isIn x && c.isIn y) := by
  simp [Condition.isIn]

theorem Condition.isIn_not (c : Condition) (x : CondSet) : c.isIn (~~~x) = !c.isIn x := by
  simp [Condition.isIn, c.index.isLt]

theorem Condition.isIn_bit (c d : Condition) : c.isIn d.bit = decide (c = d) := by
  cases c <;> cases d <;> decide

theorem Condition.isIn_zero (c : Condition) : c.isIn 0 = false := by
  simp [Condition.isIn]

theorem Condition.isIn_condSet (f : Condition → Bool) (c : Condition) : c.isIn (condSet f) = f c := by
  cases c <;> exact BitVec.getLsbD_ofBoolListLE

theorem CondSet.ext {x y : CondSet} (h : ∀ c : Condition, c.isIn x = c.isIn y) : x = y := by
  apply BitVec.eq_of_getLsbD_eq
  intro i hi
  have h0 := h .crack; have h1 := h .suspect; have h2 := h .watchLost; have h3 := h .podSilent
  have h4 := h .mouldChanged; have h5 := h .mouldUnknown; have h6 := h .markOrder; have h7 := h .cycleTimeout
  have h8 := h .driftLimit; have h9 := h .listFull; have h10 := h .forwardLoss; have h11 := h .downstreamStall
  have h12 := h .queueOverrun; have h13 := h .linkFault; have h14 := h .loadTimeout
  simp only [Condition.isIn, Condition.index] at *
  interval_cases i <;> assumption

theorem CondSet.eq_zero_iff (x : CondSet) : x = 0 ↔ ∀ c : Condition, c.isIn x = false := by
  constructor
  · rintro rfl c; exact Condition.isIn_zero c
  · intro h; exact CondSet.ext fun c => by rw [h c, Condition.isIn_zero]

/-- A vector built anew with one place changed. -/
theorem ofFn_update {α : Type} {n : Nat} (v : Vector α n) (p : Fin n) (x : α) :
    (Vector.ofFn fun i : Fin n => if i = p then x else v[i]) = v.set p.val x p.isLt := by
  apply Vector.ext
  intro i hi
  simp only [Vector.getElem_ofFn, Vector.getElem_set, Fin.ext_iff]
  by_cases h : i = p.val
  · rw [if_pos h, if_pos h.symm]
  · rw [if_neg h, if_neg fun e => h e.symm]
    rfl

/-- A sent flow state that takes the value it has leaves its port as it is (R141). -/
theorem LinkPort.setFlow_same (p : LinkPort) : p.setFlow p.txFlow = p := by
  simp [setFlow]

/-! ### Transmitters -/

/-- A frame in progress at a symbol boundary, with no flow symbol due: its next symbol but END is sent (R133). -/
theorem LinkPort.boundary_of_frame {p : LinkPort} {x : Outgoing} (hd : p.flowDue = false) (hx : p.tx = some x) :
    p.boundary =
      match (Symbol.start :: x.bytes.map Symbol.data)[x.place]? with
      | some y => { p with tx := some { bytes := x.bytes, place := x.place + 1 }, sent := [y] }
      | none => p := by
  unfold boundary
  rw [hd, hx]
  simp only [Bool.false_eq_true, if_false, Outgoing.left, frameSymbols]
  generalize Symbol.start :: x.bytes.map Symbol.data = l
  by_cases h : x.place < l.length
  · rw [List.drop_append_of_le_length h.le, List.drop_eq_getElem_cons h, List.getElem?_eq_getElem h]
    cases l.drop (x.place + 1) <;> rfl
  · rw [List.getElem?_eq_none (by omega), List.drop_append, List.drop_eq_nil_of_le (by omega : l.length ≤ x.place)]
    rcases x.place - l.length with _ | n
    · rfl
    · rw [List.drop_eq_nil_of_le (by simp : [Symbol.frameEnd].length ≤ n + 1)]
      rfl

/-- A symbol boundary leaves END to come (R133). -/
theorem LinkPort.boundary_transmitterOk {p : LinkPort} (h : TransmitterOk p) : TransmitterOk p.boundary := by
  cases hd : p.flowDue with
  | true => simpa [boundary, hd, TransmitterOk] using h
  | false =>
    cases hx : p.tx with
    | none => simp [boundary, hd, hx, TransmitterOk]
    | some x =>
      rw [boundary_of_frame hd hx]
      split
      · rename_i y hy
        obtain ⟨hl, _⟩ := List.getElem?_eq_some_iff.1 hy
        rintro z ⟨⟩
        simpa using hl
      · exact h

/-- The end of a frame leaves the transmitter idle (R133). -/
theorem LinkPort.finish_idle (p : LinkPort) : p.finish.tx = none := by
  unfold finish
  cases h : p.tx <;> simp [h]

/-- What a transmitter sends at the end of its frame (R133, R141). -/
theorem LinkPort.finish_of_frame {p : LinkPort} {x : Outgoing} (hx : p.tx = some x) :
    p.finish =
      { p with
        tx := none
        flowDue := false
        sent := (if p.flowDue then [p.txFlow.symbol] else []) ++ (frameSymbols x.bytes).drop x.place } := by
  simp [finish, hx, Outgoing.left]

namespace State

theorem isIn_standing (s : State) (c : Condition) : c.isIn s.standing = s.causeHolds c :=
  Condition.isIn_condSet _ c

theorem attention_iff (s : State) :
    s.attention = true ↔ ∃ c : Condition, c.isIn s.cond.flags = true ∧ c.isIn s.cond.enables = true := by
  unfold attention
  simp only [bne_iff_ne, ne_eq, CondSet.eq_zero_iff, Condition.isIn_and, not_forall, Bool.and_eq_true,
    Bool.not_eq_false]

/-! ### Own frames -/

/-- Bytes written as numbers and read back. -/
theorem map_ofNat_toNat (bytes : List Byte) : (bytes.map BitVec.toNat).map (BitVec.ofNat 8) = bytes := by
  rw [List.map_map]
  exact List.map_id'' (fun b => by simp) bytes

/-- An OK Reply carries the data of its OK after name, tag and status (R166, R194). -/
theorem encReply_ok {r : Reply} {data : OkBody} (h : r.answer = .ok data) :
    encReply r = r.name :: r.tag :: 0 :: encOk data := by
  simp [encReply, h, encAnswer, enc8]

/-- The port D half of `NoIdleWait`. -/
def NoIdleWaitD (s : State) : Prop :=
  s.portD.tx = none → s.portD.rxFlow = .released → s.paths.forward = [] ∧ s.paths.own = []

theorem NoIdleWaitD.of {s : State} (h : NoIdleWait s) : s.NoIdleWaitD := h.1

theorem placeOwn_eq_placed {s : State} (h : s.NoIdleWaitD) (f : OwnFrame) : s.placeOwn f = s.placed f := by
  unfold placeOwn placed decideD mayStart
  by_cases h1 : s.portD.tx = none
  · by_cases h2 : s.portD.rxFlow = .released
    · obtain ⟨hf, ho⟩ := h h1 h2
      simp [port, h1, h2, hf, ho, setOwn, grantOwn, setPassOver, sendD, setPaths, setPortD, station]
    · have : s.portD.rxFlow = .held := by cases h' : s.portD.rxFlow <;> simp_all
      simp [port, h1, this, setOwn, setPaths]
  · have : s.portD.tx.isNone = false := by cases h' : s.portD.tx <;> simp_all
    simp [port, h1, this, setOwn, setPaths]

/-! ### The queues and the sent flow states -/

/-- What a new content of the forward queue changes. -/
theorem setForward_eq (s : State) (q : List (List Byte)) :
    s.setForward q =
      { s with
        paths := { s.paths with forward := q }
        portU := s.portU.setFlow (nextTxFlow 6 2 s.portU.txFlow q.length)
        pods := (s.setForward q).pods } := by
  unfold setForward setFlowU
  split <;> rfl

/-- The pods follow a change of port U's sent flow state, and only in WATCHING. -/
theorem setForward_pods (s : State) (q : List (List Byte)) :
    (s.setForward q).pods =
      if s.watching = true ∧ nextTxFlow 6 2 s.portU.txFlow q.length ≠ s.portU.txFlow then
        match nextTxFlow 6 2 s.portU.txFlow q.length with
        | .hold => s.suspendPods.pods
        | .go => s.resumePods.pods
      else s.pods := by
  unfold setForward setFlowU
  have hw : (s.setPaths { s.paths with forward := q }).watching = s.watching := rfl
  have hp : (s.setPaths { s.paths with forward := q }).portU.txFlow = s.portU.txFlow := rfl
  simp only [hw, hp]
  generalize nextTxFlow 6 2 s.portU.txFlow q.length = n
  generalize s.watching = w
  generalize s.portU.txFlow = f
  cases w <;> cases f <;> cases n <;> rfl

/-- A short forward queue under GO changes nothing beside itself. -/
theorem setForward_of_go {s : State} (h : s.portU.txFlow = .go) {q : List (List Byte)} (hq : q.length < 6) :
    s.setForward q = { s with paths := { s.paths with forward := q } } := by
  have hn : nextTxFlow 6 2 s.portU.txFlow q.length = s.portU.txFlow := by
    rw [h]
    unfold nextTxFlow
    split
    · omega
    · split <;> rfl
  rw [setForward_eq, setForward_pods, hn, LinkPort.setFlow_same]
  simp

/-- What a new content of the upward queue changes. -/
theorem setUpward_eq (s : State) (q : List (List Byte)) :
    s.setUpward q =
      { s with
        paths := { s.paths with upward := q }
        portD := s.portD.setFlow (nextTxFlow 3 1 s.portD.txFlow q.length) } := rfl

/-- A decision point changes nothing but the two queues it serves, the pass-over count, port D's transmitter, and what
follows the forward queue's occupancy. -/
theorem decideD_frame (s : State) :
    ∃ forward own count flow pods tx, s.decideD =
      { s with
        paths := { s.paths with forward := forward, own := own, passOver := count }
        portU := s.portU.setFlow flow
        pods := pods
        portD := { s.portD with tx := tx } } := by
  have same : ∃ forward own count flow pods tx, s =
      { s with
        paths := { s.paths with forward := forward, own := own, passOver := count }
        portU := s.portU.setFlow flow
        pods := pods
        portD := { s.portD with tx := tx } } :=
    ⟨_, _, _, s.portU.txFlow, _, _, by rw [LinkPort.setFlow_same]⟩
  have fwd : ∀ f fs n, ∃ forward own count flow pods tx, s.grantForward f fs n =
      { s with
        paths := { s.paths with forward := forward, own := own, passOver := count }
        portU := s.portU.setFlow flow
        pods := pods
        portD := { s.portD with tx := tx } } := by
    intro f fs n
    unfold grantForward
    rw [setForward_eq]
    exact ⟨_, _, _, _, _, _, rfl⟩
  have own : ∀ o os, ∃ forward own count flow pods tx, s.grantOwn o os =
      { s with
        paths := { s.paths with forward := forward, own := own, passOver := count }
        portU := s.portU.setFlow flow
        pods := pods
        portD := { s.portD with tx := tx } } :=
    fun o os => ⟨_, _, _, s.portU.txFlow, _, _, by rw [LinkPort.setFlow_same]; rfl⟩
  unfold decideD
  split
  · split
    · exact same
    · exact fwd _ _ _
    · exact own _ _
    · split
      · exact fwd _ _ _
      · exact own _ _
  · exact same

/-- Port U's transmitter, going on, changes nothing but the upward queue, itself, and port D's sent flow state. -/
theorem startU_frame (s : State) :
    ∃ upward flow tx, s.startU =
      { s with
        paths := { s.paths with upward := upward }
        portD := s.portD.setFlow flow
        portU := { s.portU with tx := tx } } := by
  unfold startU
  split
  · split
    · exact ⟨_, s.portD.txFlow, _, by rw [LinkPort.setFlow_same]⟩
    · exact ⟨_, _, _, rfl⟩
  · exact ⟨_, s.portD.txFlow, _, by rw [LinkPort.setFlow_same]⟩

/-- Offering a Finding or a Notice places it where there is room, and raises QUEUE OVERRUN where there is none. -/
theorem offerNonReply_eq {s : State} (h : s.NoIdleWaitD) (f : OwnFrame) :
    s.offerNonReply f =
      if s.paths.own.length < 12 ∧ s.nonReplies < 10 then s.placed f else s.raise .queueOverrun := by
  have hr : s.roomForNonReply = true ↔ s.paths.own.length < 12 ∧ s.nonReplies < 10 := by
    show (decide (s.paths.own.length < 12) && decide (s.nonReplies < 10)) = true ↔ _
    simp
  unfold offerNonReply
  rw [placeOwn_eq_placed h]
  by_cases hh : s.paths.own.length < 12 ∧ s.nonReplies < 10
  · rw [if_pos hh, if_pos (hr.2 hh)]
  · rw [if_neg hh, if_neg (mt hr.1 hh)]

/-! ### Records and pods -/

/-- HALT's part on one record: it goes FREE unless it is JUDGING or FREE (R18). -/
theorem haltRec_eq (s : State) (i : RecId) :
    s.haltRec i =
      { s with
        tracker := s.tracker.put i
          (if (s.tracker.get i).state = .judging ∨ (s.tracker.get i).state = .free then s.tracker.get i
           else CycleRecord.freed (s.tracker.get i).number) } := by
  simp only [haltRec]
  rcases h : (s.tracker.get i).state with _ | p | _ | _ | _ <;> simp [abandon, State.freeRec, setRec, setTracker]
  all_goals (cases i <;> rfl)

/-- The pods at rest (R146). -/
theorem restPods_eq (s : State) : s.restPods = { s with pods := Vector.replicate 8 { state := .live, timer := .stopped } } := by
  simp only [restPods, mapPods, setPods]
  congr 1

/-- Raising conditions one after another, each if there is cause: which flags are set afterwards. -/
theorem isIn_raiseIf (s : State) (b : Bool) (c d : Condition) :
    d.isIn (s.raiseIf b c).cond.flags = true ↔ d.isIn s.cond.flags = true ∨ (b = true ∧ d = c) := by
  cases b <;> simp [raiseIf, raise, setCond, Condition.isIn_or, Condition.isIn_bit]

theorem isIn_raise (s : State) (c d : Condition) :
    d.isIn (s.raise c).cond.flags = true ↔ d.isIn s.cond.flags = true ∨ d = c := by
  simp [raise, setCond, Condition.isIn_or, Condition.isIn_bit]

/-! ### The end of a step -/

/-- The flags once the standing causes that arose have set theirs (R115, R116). -/
theorem isIn_causesArise (s u : State) (c : Condition) :
    c.isIn (causesArise s u).cond.flags = true ↔
      c.isIn u.cond.flags = true ∨ (u.causeHolds c = true ∧ s.causeHolds c = false) := by
  simp [causesArise, setCond, Condition.isIn_or, Condition.isIn_and, Condition.isIn_not, isIn_standing]

theorem causesArise_of_standing {s u : State} (hs : u.standing = s.standing) : causesArise s u = u := by
  unfold causesArise
  rw [hs]
  simp [setCond]

theorem causesArise_eq (s u : State) :
    causesArise s u = { u with cond := { u.cond with flags := (causesArise s u).cond.flags } } := rfl

/-- The end of a step: the causes that arose, the Notice, the lines (R116, R123, R126). -/
theorem settle_eq {s u : State} (h : u.NoIdleWaitD) :
    settle s u =
      (if s.attention = false ∧ (causesArise s u).attention = true then
        if u.paths.own.length < 12 ∧ u.nonReplies < 10 then
          (causesArise s u).placed (.notice (causesArise s u).noticeNow)
        else (causesArise s u).raise .queueOverrun
      else causesArise s u).driveLines := by
  have hd : (causesArise s u).NoIdleWaitD := h
  unfold settle offerNotice
  rw [offerNonReply_eq hd]
  congr 1
  cases s.attention <;> cases (causesArise s u).attention <;> simp
  rfl

/-- The end of a step does nothing to an effect that changed no condition and no standing cause and left the lines right. -/
theorem settle_quiet {s u : State} (hc : u.cond = s.cond) (hs : u.standing = s.standing) (hl : u.lines = u.evalLines) :
    settle s u = u := by
  have ha : u.attention = s.attention := by simp [attention, hc]
  unfold settle offerNotice driveLines
  rw [causesArise_of_standing hs, ha]
  cases s.attention <;> simp [setLines, ← hl]

/-- The standing causes read only these fields. -/
theorem standing_congr {s u : State} (hm : u.monitor = s.monitor) (hs : u.suspects = s.suspects) (ht : u.tables = s.tables)
    (hp : u.pods = s.pods) (hd : u.moulds = s.moulds) (hst : u.stall = s.stall) (hu : u.portU.signal = s.portU.signal)
    (hv : u.portD.signal = s.portD.signal) : u.standing = s.standing := by
  have : u.causeHolds = s.causeHolds := by
    funext c
    cases c <;>
      simp [causeHolds, crackCause, podSilentCause, mouldChangedCause, mouldUnknownCause, stallCause, linkFaultCause,
        podPresent, podSetup, mould, *]
  simp [standing, this]

/-- The lines read only these fields. -/
theorem evalLines_congr {s u : State} (hc : u.cond.flags = s.cond.flags) (ht : u.tables.setup = s.tables.setup)
    (hm : u.monitor.state = s.monitor.state) (hs : u.straps.sigMode = s.straps.sigMode) : u.evalLines = s.evalLines := by
  have hcl : u.classOf = s.classOf := by funext c; simp [classOf, ht]
  have ha : u.anyOfClass = s.anyOfClass := by funext x; simp [anyOfClass, hcl, hc]
  have hf : u.firstOfClass = s.firstOfClass := by funext x; simp [firstOfClass, hcl, hc]
  have hk : u.mouldConfirmed = s.mouldConfirmed := by simp [mouldConfirmed, hm]
  have hsp : u.splitSignals = s.splitSignals := by
    unfold splitSignals
    rw [ha, hk, hc]
  have hco : u.codedNumber = s.codedNumber := by simp [codedNumber, hf]
  simp [evalLines, hsp, hco, ha, hs]

/-! ### Requests -/

theorem popped_eq (s : State) (rest : List Request) : s.setInbox rest = s.popped rest := rfl

theorem reply_eq (s : State) (r : Request) (a : Answer) : s.reply r a = s.placeOwn (replyTo r a) := rfl

end State

/-- The step of a request's row whose turn it is. -/
theorem serve_served {s : State} {row : Instr} {r : Request} {rest : List Request} (h : Served s row r rest)
    (perm : Permission) (act : Act) :
    serve row perm act s =
      .next (State.settle s
        ((answered perm act r (s.popped rest)).1.placeOwn (replyTo r (answered perm act r (s.popped rest)).2))) := by
  obtain ⟨h1, h2, h3⟩ := h
  simp [serve, h1, State.executes, h2, State.roomForReply, Config.ownCapacity, h3, stepped, State.execute, State.popped_eq,
    State.reply_eq]

/-- The step of a request's row whose turn it is not. -/
theorem serve_waits {s : State} {row : Instr}
    (h : s.engine.inbox = [] ∨ 12 ≤ s.paths.own.length ∨
      ∃ r rest, s.engine.inbox = r :: rest ∧ requestRow s.engine.load r ≠ row) (perm : Permission) (act : Act) :
    serve row perm act s = .next s := by
  unfold serve
  cases hi : s.engine.inbox with
  | nil => rfl
  | cons r rest =>
    have : s.executes row r = false := by
      rcases h with h | h | ⟨r', rest', h, hr⟩
      · simp [h] at hi
      · have : ¬s.paths.own.length < 12 := by omega
        simp [State.executes, State.roomForReply, Config.ownCapacity, this]
      · rw [hi] at h
        obtain ⟨rfl, rfl⟩ := List.cons.inj h
        simp [State.executes, hr]
    simp [this, noEvent]

namespace State

theorem popped_noIdleWaitD {s : State} (h : NoIdleWait s) (rest : List Request) : (s.popped rest).NoIdleWaitD := h.1

/-- Placing an own frame changes only the own queue, the pass-over count and port D's transmitter. -/
theorem placed_frame (s : State) (f : OwnFrame) :
    ∃ own count tx, s.placed f =
      { s with paths := { s.paths with own := own, passOver := count }, portD := { s.portD with tx := tx } } := by
  unfold placed
  split
  · exact ⟨s.paths.own, 0, some (.start (f.bytes s.station)), rfl⟩
  · exact ⟨s.paths.own ++ [f], s.paths.passOver, s.portD.tx, rfl⟩

theorem placed_standing (s : State) (f : OwnFrame) : (s.placed f).standing = s.standing := by
  obtain ⟨own, count, tx, h⟩ := s.placed_frame f
  rw [h]
  exact standing_congr rfl rfl rfl rfl rfl rfl rfl rfl

theorem placed_evalLines (s : State) (f : OwnFrame) : (s.placed f).evalLines = s.evalLines := by
  obtain ⟨own, count, tx, h⟩ := s.placed_frame f
  rw [h]
  exact evalLines_congr rfl rfl rfl rfl

theorem placed_cond (s : State) (f : OwnFrame) : (s.placed f).cond = s.cond := by
  obtain ⟨own, count, tx, h⟩ := s.placed_frame f
  rw [h]

theorem placed_lines (s : State) (f : OwnFrame) : (s.placed f).lines = s.lines := by
  obtain ⟨own, count, tx, h⟩ := s.placed_frame f
  rw [h]

end State

/-- A served request whose part leaves the popped state as it was: it is answered with no other effect. -/
theorem serve_answers {s : State} {row : Instr} {r : Request} {rest : List Request} (hi : NoIdleWait s) (hl : LinesLaw s)
    (h : Served s row r rest) {perm : Permission} {act : Act} {a : Answer}
    (ha : answered perm act r (s.popped rest) = (s.popped rest, a)) :
    serve row perm act s = .next (s.answeredOnly r rest a) := by
  rw [serve_served h, ha, State.placeOwn_eq_placed (State.popped_noIdleWaitD hi rest), State.settle_quiet]
  · rfl
  · exact State.placed_cond _ _
  · rw [State.placed_standing]; exact State.standing_congr rfl rfl rfl rfl rfl rfl rfl rfl
  · rw [State.placed_lines, State.placed_evalLines]; exact hl

/-- A served request whose part leaves `t`, in which port D is as it was: the Reply is placed on `t`. -/
theorem serve_effects {s t : State} {row : Instr} {r : Request} {rest : List Request} (hi : t.NoIdleWaitD)
    (h : Served s row r rest) {perm : Permission} {act : Act} {a : Answer}
    (ha : answered perm act r (s.popped rest) = (t, a)) :
    serve row perm act s = .next (State.settle s (t.placed (replyTo r a))) := by
  rw [serve_served h, ha, State.placeOwn_eq_placed hi]

end Sys2Proof.Machine
end

