-- ==== Sys2Proof/WellFormed.lean ====
section
/-! DEFINITION. Which commands are well formed. -/

namespace Sys2Proof

/-- A command is well formed when what it carries can arrive in one command of its row. The operand types leave one check:
a frame that passes 246 bytes is discarded at its 247th byte, which is the row FRAME_OVERLENGTH (R135; log 19), so
FRAME_RECEIVED carries at most 246 data symbols. The meaning of a longer one is still given, by the same rule. -/
def Instr.wellFormed : Instr → Bool
  | .frameReceived _ data => data.length ≤ Config.maxFrame
  | _ => true

end Sys2Proof
end

