-- ==== Sys2Proof/Laws/PerInstr.lean ====
section
/-! SUPPORT. The family of the statements made per command: which commands can be ill formed. -/

namespace Sys2Proof.Laws.IllFormedIsOverlong

/-- A command is ill formed just when it is a FRAME_RECEIVED of more than 246 data symbols (R135; log 19). -/
def Statement (i : Instr) : Prop :=
  i.wellFormed = false ↔ ∃ port data, i = .frameReceived port data ∧ 246 < data.length

/-- Every other command is well formed. -/
theorem of_other {i : Instr} (hw : i.wellFormed = true) (hn : ∀ p data, i ≠ .frameReceived p data) : Statement i :=
  ⟨fun h => Bool.noConfusion (hw.symm.trans h), fun ⟨p, data, h, _⟩ => absurd h (hn p data)⟩

theorem powerOnReset (pins : Pins) : Statement (.powerOnReset pins) := of_other rfl nofun

theorem lineReset (pins : Pins) : Statement (.lineReset pins) := of_other rfl nofun

theorem frameReceived (p : Port) (data : List Byte) : Statement (.frameReceived p data) := by
  constructor
  · intro h
    exact ⟨p, data, rfl, by simpa [Instr.wellFormed] using h⟩
  · rintro ⟨_, _, h, hl⟩
    cases h
    simpa [Instr.wellFormed] using hl

theorem frameOverlength (p : Port) : Statement (.frameOverlength p) := of_other rfl nofun

theorem earlyStart (p : Port) : Statement (.earlyStart p) := of_other rfl nofun

theorem straySymbol (p : Port) (x : StraySymbol) : Statement (.straySymbol p x) := of_other rfl nofun

theorem codeViolation (p : Port) : Statement (.codeViolation p) := of_other rfl nofun

theorem holdReceived (p : Port) : Statement (.holdReceived p) := of_other rfl nofun

theorem goReceived (p : Port) : Statement (.goReceived p) := of_other rfl nofun

theorem idleReceived (p : Port) : Statement (.idleReceived p) := of_other rfl nofun

theorem signalLost (p : Port) : Statement (.signalLost p) := of_other rfl nofun

theorem portDFrameEnd : Statement (.portDFrameEnd) := of_other rfl nofun

theorem portUFrameEnd : Statement (.portUFrameEnd) := of_other rfl nofun

theorem stallTimerExpiry : Statement (.stallTimerExpiry) := of_other rfl nofun

theorem silenceTimerExpiry (p : PodId) : Statement (.silenceTimerExpiry p) := of_other rfl nofun

theorem cycleTimerExpiry (r : RecId) : Statement (.cycleTimerExpiry r) := of_other rfl nofun

theorem graceExpiry (r : RecId) : Statement (.graceExpiry r) := of_other rfl nofun

theorem judgementCompletion : Statement (.judgementCompletion) := of_other rfl nofun

theorem examineBlock : Statement (.examineBlock) := of_other rfl nofun

theorem rawValueChange (x : RawInput) : Statement (.rawValueChange x) := of_other rfl nofun

theorem debounceTimerExpiry (x : Input) : Statement (.debounceTimerExpiry x) := of_other rfl nofun

theorem loadTimerExpiry : Statement (.loadTimerExpiry) := of_other rfl nofun

theorem identify : Statement (.identify) := of_other rfl nofun

theorem readStatus : Statement (.readStatus) := of_other rfl nofun

theorem restart : Statement (.restart) := of_other rfl nofun

theorem halt : Statement (.halt) := of_other rfl nofun

theorem start : Statement (.start) := of_other rfl nofun

theorem loadSetup : Statement (.loadSetup) := of_other rfl nofun

theorem loadBandSets : Statement (.loadBandSets) := of_other rfl nofun

theorem loadChannels : Statement (.loadChannels) := of_other rfl nofun

theorem loadMould : Statement (.loadMould) := of_other rfl nofun

theorem loadContinue : Statement (.loadContinue) := of_other rfl nofun

theorem loadAbort : Statement (.loadAbort) := of_other rfl nofun

theorem readMould : Statement (.readMould) := of_other rfl nofun

theorem confirmMould : Statement (.confirmMould) := of_other rfl nofun

theorem readSuspects : Statement (.readSuspects) := of_other rfl nofun

theorem releaseSuspect : Statement (.releaseSuspect) := of_other rfl nofun

theorem readCycle : Statement (.readCycle) := of_other rfl nofun

theorem clearConditions : Statement (.clearConditions) := of_other rfl nofun

theorem setEnables : Statement (.setEnables) := of_other rfl nofun

theorem traceSelect : Statement (.traceSelect) := of_other rfl nofun

theorem traceFreeze : Statement (.traceFreeze) := of_other rfl nofun

theorem traceUnfreeze : Statement (.traceUnfreeze) := of_other rfl nofun

theorem traceRead : Statement (.traceRead) := of_other rfl nofun

theorem traceOff : Statement (.traceOff) := of_other rfl nofun

theorem unknownRequest : Statement (.unknownRequest) := of_other rfl nofun

theorem frameStart (p : Port) : Statement (.frameStart p) := of_other rfl nofun

end Sys2Proof.Laws.IllFormedIsOverlong
end

