-- ==== Sys2Proof/Laws/Tracker.lean ====
section
/-! SUPPORT. What the parts of taking a Mark do: the abandonment, the auto confirmation and the opening of an OPEN, the matching
and the CLOSE of the others, and the abandonment of a moulded record. -/

namespace Sys2Proof.Machine

theorem CycleRecord.isOpen_iff (r : CycleRecord) : r.isOpen = true ↔ ∃ p, r.state = .opened p := by
  unfold CycleRecord.isOpen
  cases r.state <;> simp

theorem Tracker.get_put (t : Tracker) (i : RecId) (r : CycleRecord) : (t.put i r).get i = r := by cases i <;> rfl

theorem Tracker.get_put_other (t : Tracker) (i : RecId) (r : CycleRecord) :
    (t.put i r).get i.other = t.get i.other := by cases i <;> rfl

theorem Tracker.get_put_of_other (t : Tracker) (i : RecId) (r : CycleRecord) : (t.put i.other r).get i = t.get i := by
  cases i <;> rfl

namespace State

/-- What an OPEN Mark's abandonment leaves (R6). -/
theorem abandonOpen_eq (s : State) (h : ¬(s.tracker.a.isOpen = true ∧ s.tracker.b.isOpen = true)) :
    s.abandonOpen =
      { s with
        tracker :=
          { s.tracker with
            a := if s.tracker.a.isOpen = true then CycleRecord.freed s.tracker.a.number else s.tracker.a
            b := if s.tracker.b.isOpen = true then CycleRecord.freed s.tracker.b.number else s.tracker.b }
        cond :=
          { s.cond with
            flags :=
              if s.tracker.a.isOpen = true ∨ s.tracker.b.isOpen = true then s.cond.flags ||| Condition.markOrder.bit
              else s.cond.flags } } := by
  simp only [abandonOpen, Tracker.openRec]
  cases ha : s.tracker.a.isOpen <;> cases hb : s.tracker.b.isOpen <;> simp [ha, hb] at h ⊢ <;>
    simp [abandon, State.freeRec, setRec, setTracker, raise, setCond, Tracker.get, Tracker.put]

/-- Does an OPEN confirm the mould, with this code and CLAMP (R5)? -/
def AutoConfirms (s : State) (code : Fin 16) (clamp : Bool) : Prop :=
  s.monitor.state = .unconfirmed ∧ s.monitor.code.debounced = some code ∧ s.monitor.clamp.debounced = some clamp ∧
  (∃ su, s.tables.setup = some su ∧ su.autoConfirm = true) ∧ ∃ m, s.mould code = some m ∧ m.header.autoEligible = true

/-- Auto confirm changes nothing but the mould monitor, and that just when it confirms (R5). -/
theorem autoConfirm_spec (s : State) :
    ∃ m, s.autoConfirm = { s with monitor := m } ∧
      (∀ code clamp, s.AutoConfirms code clamp →
        m = { s.monitor with state := .confirmed { code := code, clamp := clamp } }) ∧
      ((∀ code clamp, ¬s.AutoConfirms code clamp) → m = s.monitor) := by
  simp only [autoConfirm]
  split
  · rename_i su code clamp h1 h2 h3 h4
    split
    · rename_i m hm
      split
      · rename_i h
        simp at h
        refine ⟨_, rfl, ?_, ?_⟩
        · rintro c k ⟨_, e1, e2, _⟩
          rw [h3] at e1
          rw [h4] at e2
          cases e1
          cases e2
          rfl
        · intro hh
          exact absurd ⟨h1, h3, h4, ⟨su, h2, h.1⟩, m, hm, h.2⟩ (hh code clamp)
      · rename_i h
        refine ⟨_, rfl, ?_, fun _ => rfl⟩
        rintro c k ⟨_, e1, e2, ⟨su', e3, e4⟩, m', e5, e6⟩
        rw [h3] at e1
        cases e1
        rw [h2] at e3
        cases e3
        rw [hm] at e5
        cases e5
        simp [e4, e6] at h
    · rename_i hm
      refine ⟨_, rfl, ?_, fun _ => rfl⟩
      rintro c k ⟨_, e1, e2, _, m', e5, e6⟩
      rw [h3] at e1
      cases e1
      rw [hm] at e5
      cases e5
  · rename_i hh
    refine ⟨_, rfl, ?_, fun _ => rfl⟩
    rintro c k ⟨e0, e1, e2, ⟨su', e3, e4⟩, m', e5, e6⟩
    exact absurd e2 (hh su' c k e0 e3 e1)

/-- Where the cycle of an OPEN finds its place (R6). -/
theorem placeCycle_eq (v : State) (n : Half) :
    (v.placeCycle n).synchronise =
      if v.tracker.a.state = .free then
        { v with tracker := { v.tracker with a := v.openedRecord n, untracked := none, unsync := false } }
      else if v.tracker.b.state = .free then
        { v with tracker := { v.tracker with b := v.openedRecord n, untracked := none, unsync := false } }
      else
        ({ v with tracker := { v.tracker with untracked := some n, unsync := false } } : State).raise .queueOverrun := by
  simp only [placeCycle, Tracker.freeRec]
  split
  · rename_i i h
    split at h
    · rename_i h'
      cases h
      simp [h', openRecord, setRec, setTracker, synchronise, Tracker.put]
    · split at h
      · rename_i h1 h2
        cases h
        simp [h1, h2, openRecord, setRec, setTracker, synchronise, Tracker.put]
      · cases h
  · rename_i h
    split at h
    · cases h
    · split at h
      · cases h
      · rename_i h1 h2
        simp [h1, h2, setTracker, raise, setCond, synchronise]

/-- A record opened in a state reads only the tables, the moulds and the installed slot (R6, R29). -/
theorem openedRecord_eq {s v : State} (n : Half) (h1 : v.tables = s.tables) (h2 : v.moulds = s.moulds) :
    v.openedRecord n =
      { state := .opened .fill
        number := some n
        slot := v.installed
        entered := ⟨false, false, false, false⟩
        silenced := 0
        accs := match v.installed with
          | none => []
          | some slot => ((s.mould slot).map fun m => m.profiles.map s.freshAcc).getD []
        cycleTimer := s.tables.setup.map fun su => su.cycleLimit * 100
        graceTimer := none } := by
  have : v.freshAcc = s.freshAcc := by
    funext p
    simp [freshAcc, mappingOf, h1]
  simp only [openedRecord, freshAccs, h1, mould, h2, this]
  congr 1
  cases v.installed with
  | none => rfl
  | some x =>
    simp only
    rcases s.moulds[x] with _ | m <;> rfl

/-- A Mark of the number of an OPEN record matches it (R4). -/
theorem matching_of {s : State} {i : RecId} {n : Half} {phase : Phase}
    (h1 : ¬(s.tracker.a.isOpen = true ∧ s.tracker.b.isOpen = true)) (h2 : (s.tracker.get i).state = .opened phase)
    (h3 : (s.tracker.get i).number = some n) : s.matching n = some (i, phase) := by
  rw [CycleRecord.isOpen_iff, CycleRecord.isOpen_iff] at h1
  cases i <;> simp only [Tracker.get] at h2 h3
  · have hb : ∀ q, s.tracker.b.state ≠ .opened q := fun q hq => h1 ⟨⟨_, h2⟩, ⟨_, hq⟩⟩
    unfold matching
    rw [h2]
    rcases hs : s.tracker.b.state with _ | q | _ | _ | _ <;> simp_all
  · have hb : ∀ q, s.tracker.a.state ≠ .opened q := fun q hq => h1 ⟨⟨_, hq⟩, ⟨_, h2⟩⟩
    unfold matching
    rw [h2]
    rcases hs : s.tracker.a.state with _ | q | _ | _ | _ <;> simp_all

/-- A Mark of the number of no OPEN record matches none (R4). -/
theorem matching_none {s : State} {n : Half}
    (h : ∀ i, ¬((s.tracker.get i).isOpen = true ∧ (s.tracker.get i).number = some n)) : s.matching n = none := by
  have ha := h .a
  have hb := h .b
  simp only [Tracker.get, CycleRecord.isOpen_iff] at ha hb
  unfold matching
  rcases hs : s.tracker.a.state with _ | q | _ | _ | _ <;>
    rcases hs : s.tracker.b.state with _ | q | _ | _ | _ <;> simp_all

/-- A moulded OPEN record is abandoned when the mould leaves CONFIRMED (R17). -/
theorem abandonMoulded_eq (s : State) (h : ¬(s.tracker.a.isOpen = true ∧ s.tracker.b.isOpen = true)) :
    s.abandonMoulded =
      { s with
        tracker :=
          { s.tracker with
            a := if s.tracker.a.isOpen = true ∧ s.tracker.a.slot.isSome = true then CycleRecord.freed s.tracker.a.number
              else s.tracker.a
            b := if s.tracker.b.isOpen = true ∧ s.tracker.b.slot.isSome = true then CycleRecord.freed s.tracker.b.number
              else s.tracker.b } } := by
  simp only [abandonMoulded, Tracker.openRec]
  cases ha : s.tracker.a.isOpen <;> cases hb : s.tracker.b.isOpen <;> simp [ha, hb] at h ⊢
  · cases hs : s.tracker.b.slot <;> simp [Tracker.get, hs, abandon, State.freeRec, setRec, setTracker, Tracker.put]
  · cases hs : s.tracker.a.slot <;> simp [Tracker.get, hs, abandon, State.freeRec, setRec, setTracker, Tracker.put]

/-! ### Mappings and silenced pods -/

/-- A watch point of no channel entry has no mapping (R29). -/
theorem mappingOf_eq_none {s : State} {wp : Fin 24} (h : ∀ e ∈ s.tables.channels, e.watchPoint ≠ wp) :
    s.mappingOf wp = none := by
  have : (s.tables.channels.findIdx? fun e => e.watchPoint == wp) = none :=
    List.findIdx?_eq_none_iff.2 fun e he => by simpa using h e he
  simp [mappingOf, this]

/-- A watch point is mapped to the first channel entry that has it (R29). -/
theorem mappingOf_eq_some {s : State} {wp : Fin 24} {i : Nat} {e : ChannelEntry} (h1 : s.tables.channels[i]? = some e)
    (h2 : e.watchPoint = wp)
    (h3 : ∀ (k : Nat) (d : ChannelEntry), k < i → s.tables.channels[k]? = some d → d.watchPoint ≠ wp) :
    s.mappingOf wp = some { entry := i, pod := e.pod } := by
  obtain ⟨hi, he⟩ := List.getElem?_eq_some_iff.1 h1
  have : (s.tables.channels.findIdx? fun e => e.watchPoint == wp) = some i := by
    rw [List.findIdx?_eq_some_iff_getElem]
    exact ⟨hi, by simp [he, h2], fun j hj => by simpa using h3 j _ hj (List.getElem?_eq_getElem (by omega))⟩
  simp [mappingOf, this, h1]

/-- The silenced pods that a phase entry adds are the present pods that are SILENT (R147). -/
theorem mem_silentPods (s : State) (p : PodId) :
    s.silentPods.getLsbD p.val = true ↔ s.podPresent p = true ∧ s.pods[p].state = .silent := by
  have key : ∀ (l : List PodId) (acc : BitVec 8),
      (l.foldl (fun acc q => if s.podPresent q && s.pods[q].state == .silent then acc ||| BitVec.twoPow 8 q.val else acc)
          acc).getLsbD p.val = true ↔
        acc.getLsbD p.val = true ∨ (p ∈ l ∧ s.podPresent p = true ∧ s.pods[p].state = .silent) := by
    intro l
    induction l with
    | nil => simp
    | cons q l ih =>
      intro acc
      rw [List.foldl_cons, ih]
      by_cases e : q = p
      · subst e
        by_cases h : s.podPresent q = true ∧ s.pods[q].state = .silent
        · rw [if_pos (by simpa using h), BitVec.getLsbD_or, BitVec.getLsbD_twoPow]
          exact ⟨fun _ => .inr ⟨List.mem_cons_self, h⟩, fun _ => .inl (by simp)⟩
        · rw [if_neg (by simpa using h)]
          exact ⟨fun x => x.imp_right fun y => ⟨List.mem_cons_self, y.2⟩, fun x => x.elim .inl fun y => absurd y.2 h⟩
      · have hv : q.val ≠ p.val := fun h => e (Fin.ext h)
        split
        · rw [BitVec.getLsbD_or, BitVec.getLsbD_twoPow]
          simp [hv, Ne.symm e]
        · simp [Ne.symm e]
  unfold silentPods
  rw [key]
  simp

/-! ### A legal CLOSE -/

/-- The state a legal CLOSE leaves before the grace timer is looked at (R8): `x` in the record's place. -/
def closedWith (s : State) (i : RecId) (x : CycleRecord) : State :=
  { s with tracker := { s.tracker.put i x with lastClosed := some i } }

/-- The close grace that a CLOSE starts the grace timer with (R8). -/
def closeGrace (s : State) : Nat := (s.tables.setup.map Setup.closeGrace).getD 0

/-- A close grace above 0 leaves the record in GRACE with its timer running (R8). -/
theorem closeRec_of_grace {s : State} (i : RecId) (h : 0 < s.closeGrace) :
    s.closeRec i =
      s.closedWith i { s.tracker.get i with state := .grace, cycleTimer := none, graceTimer := some s.closeGrace } := by
  have h' : (s.tables.setup.map Setup.closeGrace).getD 0 ≠ 0 := Nat.ne_of_gt h
  simp only [closeRec]
  rw [if_neg h']
  rfl

/-- A close grace of 0 expires in the step of the CLOSE (R8, R13). -/
theorem closeRec_of_no_grace {s : State} (i : RecId) (h : s.closeGrace = 0) :
    s.closeRec i =
      (s.closedWith i
        { s.tracker.get i with state := .grace, cycleTimer := none, graceTimer := some s.closeGrace }).graceExpires i := by
  have h' : (s.tables.setup.map Setup.closeGrace).getD 0 = 0 := h
  simp only [closeRec]
  rw [if_pos h']
  rfl

end State

end Sys2Proof.Machine
end

