-- ==== Sys2Proof/Tests/Slice0.lean ====
section
/-! SUPPORT. The model's own tests: the smoke test of well-formedness, a few values, and for each statement with hypotheses a
concrete state and operands that meet them. -/

namespace Sys2Proof.Tests

set_option Elab.async false

open Sys2Proof.Machine

/-! ### Well-formedness and values -/

/-- The check of R135 refuses a FRAME_RECEIVED of 247 data symbols, and admits one of 246. -/
theorem test_wellFormed_frame :
    (Instr.frameReceived .d (List.replicate 247 0)).wellFormed = false ∧
    (Instr.frameReceived .d (List.replicate 246 0)).wellFormed = true ∧ Instr.halt.wellFormed = true := by decide +kernel

/-- The check value of the nine digits, by the parameters of R134. -/
theorem test_crc_of_digits : crc [0x31, 0x32, 0x33, 0x34, 0x35, 0x36, 0x37, 0x38, 0x39] = 0x29B1#16 := by decide +kernel

/-- Levels of R33: 160 a decade, the clamp at both ends, and the nearest integer. -/
theorem test_levels :
    levelOf 0 1 = 0 ∧ levelOf 1 1 = 0 ∧ levelOf 10 1 = 160 ∧ levelOf 1000000 1 = 960 ∧ levelOf 1000000000 1 = 1440 ∧
    levelOf 2 1 = 48 ∧ levelOf (10 ^ 40) 1 = 2047 := by decide +kernel

theorem test_no_row_gives_bits : decodeTableWord 8 0 = none := by decide +kernel

/-! ### States -/

def setup : Setup where
  pods := Vector.replicate 8 ⟨true, 100⟩
  cycleLimit := 100
  closeGrace := 200
  blindLimit := 3
  stallLimit := 500
  loadTimeout := 1000
  reportEvery := true
  policy := .tagged
  autoConfirm := true
  trigger := .onDeviate
  classes := Vector.replicate 15 .warn

def channel : ChannelEntry := ⟨0, 0, 3, 0, 100, 10, 500, true⟩

def bands : BandSet := ⟨⟨10, 20000⟩, ⟨100, 200⟩, ⟨300, 700⟩, ⟨1000, 2000⟩⟩

def profile : Profile := ⟨3, ⟨some ⟨500, 500, 40⟩, none, none, none⟩, some 0, some (2, 255), 0⟩

def mould : MouldRecord := ⟨⟨7, true, 1, 2, 1, 10, 1, 0, 1⟩, [profile], 0⟩

/-- The part HALTED, as a reset leaves it, with no command waiting. -/
def halted : State := State.reset

/-- The part HALTED with its tables loaded. -/
def loaded : State :=
  { halted with
    tables := ⟨some setup, [channel], Vector.replicate 8 (some bands)⟩
    moulds := (Vector.replicate 16 none).set 5 (some mould) }

/-- The part WATCHING with slot 5 CONFIRMED; in split mode S3 shows it. -/
def watching : State :=
  { loaded with
    engine := { halted.engine with operating := .watching }
    monitor := ⟨⟨5, some 5, none, none⟩, ⟨true, some true, none, none⟩, .confirmed ⟨5, true⟩⟩
    pods := Vector.replicate 8 ⟨.live, .running 100⟩
    lines := ⟨false, 8⟩ }

/-- WATCHING with an UNCONFIRMED mould; its standing cause has set its flag. -/
def unconfirmed : State :=
  { watching with
    monitor := { watching.monitor with state := .unconfirmed }
    cond := ⟨Condition.mouldChanged.bit, 0⟩
    lines := ⟨false, 1⟩ }

def acc : Accumulator := ⟨3, some ⟨0, 0⟩, ⟨0, 0, none, []⟩, ⟨.waiting, 0, none⟩, ⟨0, 0, none⟩⟩

/-- A moulded record of cycle 9 in a phase. -/
def opened (phase : Phase) : CycleRecord :=
  ⟨.opened phase, some 9, some 5, ⟨true, true, true, true⟩, 0, [acc], some 10000, none⟩

/-- A moulded record of a cycle in GRACE, WAIT or JUDGING. -/
def closed (state : RecState) (number : Half) (timer : Option Nat) : CycleRecord :=
  ⟨state, some number, some 5, ⟨true, true, true, true⟩, 0, [acc], none, timer⟩

/-- WATCHING with two records. -/
def recs (a b : CycleRecord) (judged : Option RecId) : State :=
  { watching with
    tracker := { watching.tracker with a := a, b := b }
    verdict := ⟨judged.map fun i => ⟨i, mould⟩, none⟩ }

def entry : SuspectEntry := ⟨5, 3, .confirmed, 8, [.deviate], 1, some 8⟩

/-- A request in the inbox. -/
def req (name : Byte) (body : List Byte) : Request := ⟨0, name, 7, body⟩

/-- The state with one request in its inbox. -/
def asked (s : State) (name : Byte) (body : List Byte) : State :=
  { s with engine := { s.engine with inbox := [req name body] } }

/-- The state with a load open. -/
def loading (s : State) (staging : Staging) (declared remaining : Nat) : State :=
  { s with engine := { s.engine with load := some ⟨staging, declared, remaining, 1000⟩ } }

/-- What the statements about requests ask of a state and the request at its head. -/
def Ready (s : State) (row : Instr) : Prop :=
  NoIdleWait s ∧ LinesLaw s ∧ ∃ r rest, s.engine.inbox = r :: rest ∧ Served s row r rest

/-- A state is ready for a row when a few equations hold that the kernel can evaluate. -/
theorem ready_of {s : State} {row : Instr} {r : Request}
    (h : s.portD.tx = none ∧ s.paths.forward = [] ∧ s.paths.own = [] ∧ s.paths.upward = [] ∧ s.lines = s.evalLines ∧
      s.engine.inbox = [r] ∧ requestRow s.engine.load r = row) : Ready s row := by
  obtain ⟨_, h2, h3, h4, h5, h6, h7⟩ := h
  exact ⟨⟨fun _ _ => ⟨h2, h3⟩, fun _ _ => h4⟩, h5, r, [], h6, h6, h7, by rw [h3]; decide +kernel⟩

/-! ### The step -/

theorem test_step_runs_the_front : step { halted with pending := [.halt] } = .next halted := rfl

/-- On an empty queue the transmitters go on sending IDLE. -/
theorem test_step_idles : step halted = .next halted := rfl

/-- Between frames: the HOLD and the GO of a change, then HOLD for IDLE. -/
theorem test_symbol_boundary :
    (halted.portU.setFlow .hold).flowDue = true ∧ (halted.portU.setFlow .hold).boundary.sent = [.hold] ∧
    ((halted.portU.setFlow .hold).boundary.setFlow .go).boundary.sent = [.go] ∧
    (halted.portU.setFlow .hold).boundary.boundary.sent = [.hold] := by decide +kernel

/-- A port that sends the frame of two bytes, from a place on. -/
def sending (place : Nat) : LinkPort := { halted.portU with tx := some ⟨[7, 9], place⟩ }

/-- START and the bytes at boundaries, a HOLD among them, END at the frame's end; before that a boundary waits for the end. -/
theorem test_frame_is_sent :
    (sending 0).boundary.sent = [.start] ∧ (sending 0).boundary.boundary = { sending 2 with sent := [.data 7] } ∧
    (sending 2).boundary.sent = [.data 9] ∧ ((sending 1).setFlow .hold).boundary.sent = [.hold] ∧
    ((sending 1).setFlow .hold).boundary.boundary.sent = [.data 7] ∧ (sending 3).boundary = sending 3 ∧
    (sending 3).finish.sent = [.frameEnd] ∧
    ((sending 2).setFlow .hold).finish.sent = [.hold, .data 9, .frameEnd] ∧ (sending 0).finish.tx = none := by
  decide +kernel

/-- Attention rises and there is room; and it rises and there is none. -/
theorem test_meets_StepEnd :
    NoIdleWait halted ∧ halted.attention = false ∧
    (halted.setCond ⟨Condition.crack.bit, Condition.crack.bit⟩).attention = true ∧ halted.roomForNonReply = true ∧
    State.settle halted (halted.setCond ⟨Condition.crack.bit, Condition.crack.bit⟩) ≠ halted ∧
    (halted.setOwn (List.replicate 10 (.notice halted.noticeNow))).roomForNonReply = false :=
  ⟨⟨by decide +kernel, by decide +kernel⟩, by decide +kernel⟩

theorem test_meets_split_lines : LinesLaw watching ∧ watching.straps.sigMode = .split :=
  ⟨by unfold LinesLaw; decide +kernel, by decide +kernel⟩

/-- Coded mode: with no flag, and the example of R122. -/
theorem test_meets_coded_lines :
    (let s := { loaded with straps := ⟨0, 0, .coded⟩ }
     LinesLaw s ∧ ∀ c : Condition, c.isIn s.cond.flags = false) ∧
    (let s := { loaded with
       straps := ⟨0, 0, .coded⟩, cond := ⟨Condition.markOrder.bit ||| Condition.podSilent.bit, 0⟩, lines := ⟨false, 4⟩ }
     LinesLaw s ∧ ∀ d : Condition, d.isIn s.cond.flags = true → d ≠ .podSilent → Condition.podSilent.index < d.index) := by
  refine ⟨⟨by unfold LinesLaw; decide +kernel, by intro c; exact Condition.isIn_zero c⟩, by unfold LinesLaw; decide +kernel, ?_⟩
  intro d
  cases d <;> decide +kernel

/-! ### Symbols and flow -/

/-- The receiver of port D in each framing state, at the boundary of a frame's length. -/
def framed (x : Framing) : State := { halted with portD := { halted.portD with framing := x } }

theorem test_meets_symbols :
    (halted.portD.framing = .between ∧ LinesLaw halted) ∧ (framed .discarding).portD.framing = .discarding ∧
    (∃ bytes, (framed (.inFrame (List.replicate 245 0))).portD.framing = .inFrame bytes ∧ bytes.length < 246) ∧
    (∃ bytes, (framed (.inFrame (List.replicate 246 0))).portD.framing = .inFrame bytes ∧ 246 ≤ bytes.length) :=
  ⟨⟨rfl, by unfold LinesLaw; decide +kernel⟩, rfl, ⟨_, rfl, by decide +kernel⟩, ⟨_, rfl, by decide +kernel⟩⟩

/-- Both ports held, with their signal. -/
def held : State :=
  { halted with
    portU := { halted.portU with rxFlow := .held }, portD := { halted.portD with rxFlow := .held }
    stall := ⟨some 500, false⟩ }

theorem test_meets_flow :
    held.portU.rxFlow = .held ∧ held.portD.rxFlow = .held ∧ halted.portD.rxFlow = .released ∧
    held.portD.signalTimer.isSome = true ∧ held.portU.signalTimer.isSome = true ∧ halted.portD.signalTimer.isSome = true ∧
    ({ halted.portD with signal := .lost, signalTimer := none } : LinkPort).signalTimer = none := by decide +kernel

/-- The arbiter: an own head passed over twice, and three times; port U with a frame waiting. -/
def waiting (passOver : Nat) : State :=
  { halted with paths := ⟨[[1]], [[2]], [.notice halted.noticeNow], passOver⟩ }

theorem test_meets_arbiter :
    ((waiting 2).portD.tx = none ∧ (waiting 2).portD.rxFlow = .released ∧ (waiting 2).paths.passOver ≤ 2) ∧
    ((waiting 3).portD.tx = none ∧ 3 ≤ (waiting 3).paths.passOver) ∧ (waiting 3).portU.tx = none ∧
    (waiting 3).paths.upward = [[2]] ∧
    ({ halted with portD := { halted.portD with tx := some (.start []) } } : State).portD.tx.isSome = true := by decide +kernel

/-- Queues at their sizes, under held transmitters. -/
def full (forward upward : Nat) : State :=
  { held with
    paths := ⟨List.replicate forward [], List.replicate upward [], [], 0⟩
    portU := { held.portU with txFlow := .hold }, portD := { held.portD with txFlow := .hold } }

theorem test_meets_queues :
    (NoIdleWait (full 8 4) ∧ FlowLaw (full 8 4) ∧ (full 8 4).paths.forward.length = 8 ∧ (full 8 4).paths.upward.length = 4) ∧
    (NoIdleWait (full 7 3) ∧ FlowLaw (full 7 3) ∧ (full 7 3).paths.forward.length < 8 ∧ (full 7 3).paths.upward.length < 4) ∧
    (NoIdleWait halted ∧ FlowLaw halted ∧ halted.portD.tx = none ∧ halted.portU.tx = none) := by
  refine ⟨⟨?_, ?_, by decide +kernel⟩, ⟨?_, ?_, by decide +kernel⟩, ?_, ?_,
    by decide +kernel⟩ <;> first | (unfold NoIdleWait; decide +kernel) | (unfold FlowLaw; decide +kernel)

/-! ### Frames -/

/-- A port in a frame that its data completes. -/
def inFrame (s : State) (p : Port) : State := s.setPort p { s.port p with framing := .inFrame [] }

theorem completes_of {s : State} {p : Port} {bytes : List Byte} (h : bytes.length ≤ 246) :
    Completes (inFrame s p) p bytes bytes := by
  refine ⟨[], ?_, rfl, h⟩
  cases p <;> rfl

/-- A Sample frame of pod 1 on channel 0, with a phase tag. -/
def sampleFrame (tag : Byte) : List Byte := wrapFrame 1 0 1 ([0, 9, tag, 0] ++ List.replicate 64 0)

/-- A Mark of cycle 9. -/
def markFrame (kind : Byte) : List Byte := wrapFrame 3 31 0 [kind, 0, 9]

theorem test_meets_bad_frames :
    (∃ bytes, Completes (inFrame halted .d) .d bytes bytes ∧ ¬PassesChecks bytes) ∧
    (246 < (List.replicate 247 (0 : Byte)).length ∧ (inFrame halted .d).portD.framing = .inFrame []) ∧
    (PassesChecks (wrapFrame 2 9 0 []) ∧ ¬AddressesStand halted (frameOf (wrapFrame 2 9 0 []))) ∧
    (PassesChecks (wrapFrame 2 0 0 []) ∧ ¬LegalOnD (frameOf (wrapFrame 2 0 0 []))) ∧
    (PassesChecks (wrapFrame 3 31 1 []) ∧ ¬LegalOnU halted (frameOf (wrapFrame 3 31 1 []))) := by
  refine ⟨⟨[], completes_of (by decide +kernel), by unfold PassesChecks; decide +kernel⟩, ⟨by decide +kernel, rfl⟩, ⟨?_, ?_⟩, ⟨?_, ?_⟩, ?_, ?_⟩
  all_goals
    first
    | (unfold PassesChecks; decide +kernel)
    | (unfold AddressesStand; decide +kernel)
    | (unfold LegalOnD; decide +kernel)
    | (unfold LegalOnU; decide +kernel)

theorem channelLaw_watching : ChannelLaw watching := by
  refine ⟨by decide +kernel, ?_, by simp [watching, loaded]⟩
  intro e he
  have : e = channel := by simpa [watching, loaded] using he
  subst this
  decide +kernel

theorem test_meets_pods_and_copies :
    ((frameOf (sampleFrame 2)).source.toNat = (0 : PodId).val + 1 ∧ watching.podPresent 0 = true) ∧
    (¬(1 ≤ (frameOf (wrapFrame 2 0 16 [])).source.toNat ∧ (frameOf (wrapFrame 2 0 16 [])).source.toNat ≤ 8)) ∧
    ChannelLaw watching ∧ watching.tables.channels[0]? = some channel ∧
    ((frameOf (sampleFrame 2)).payload.getD 0 0).toNat = channel.channel.val ∧
    (2, ExamPhase.vibe) ∈ [(2, ExamPhase.vibe), (3, .ring), (4, .strip)] ∧
    ((frameOf (sampleFrame 1)).payload.getD 2 0).toNat ∉ [2, 3, 4] ∧ watching.tables.setup = some setup ∧
    setup.policy = .tagged := by
  refine ⟨by decide +kernel, by decide +kernel, channelLaw_watching, by decide +kernel⟩

theorem test_meets_frames_from_pods :
    (∀ bytes, bytes = sampleFrame 2 ∨ bytes = wrapFrame 2 0 1 [] ∨ bytes = wrapFrame 1 0 1 [] →
      Completes (inFrame watching .u) .u bytes bytes ∧ PassesChecks bytes ∧
      AddressesStand (inFrame watching .u) (frameOf bytes) ∧ LegalOnU (inFrame watching .u) (frameOf bytes)) ∧
    (frameOf (sampleFrame 2)).kind = 1 ∧ (frameOf (sampleFrame 2)).payload.length = 68 ∧
    (frameOf (wrapFrame 2 0 1 [])).kind ≠ 1 ∧ (frameOf (wrapFrame 1 0 1 [])).payload.length ≠ 68 := by
  refine ⟨?_, by decide +kernel⟩
  rintro bytes (rfl | rfl | rfl) <;>
    exact ⟨completes_of (by decide +kernel), by unfold PassesChecks; decide +kernel, by unfold AddressesStand; decide +kernel, by unfold LegalOnU; decide +kernel⟩

/-- A full inbox. -/
def busy : State := { halted with engine := { halted.engine with inbox := List.replicate 4 (req 1 []) } }

theorem test_meets_frames_from_the_controller :
    (∀ bytes, bytes = wrapFrame 5 16 0 [1, 7] ∨ bytes = wrapFrame 5 16 0 [1] ∨ bytes = wrapFrame 3 31 0 [1] ∨
        bytes = markFrame 1 ∨ bytes = markFrame 8 ∨ bytes = wrapFrame 2 1 0 [] →
      Completes (inFrame watching .d) .d bytes bytes ∧ PassesChecks bytes ∧
      AddressesStand (inFrame watching .d) (frameOf bytes) ∧ LegalOnD (frameOf bytes)) ∧
    ((frameOf (wrapFrame 5 16 0 [1, 7])).dest.toNat = 16 + watching.straps.sta.toNat ∧ watching.engine.inbox.length < 4 ∧
      4 ≤ busy.engine.inbox.length) ∧
    (((frameOf (markFrame 1)).payload.getD 0 0).toNat, MarkKind.opening) ∈ [(1, MarkKind.opening), (7, .abort)] ∧
    7 < ((frameOf (markFrame 8)).payload.getD 0 0).toNat := by
  refine ⟨?_, by decide +kernel⟩
  rintro bytes (rfl | rfl | rfl | rfl | rfl | rfl) <;>
    exact ⟨completes_of (by decide +kernel), by unfold PassesChecks; decide +kernel, by unfold AddressesStand; decide +kernel, by unfold LegalOnD; decide +kernel⟩

/-- The length of a payload that fills a frame, and a covered part of the shortest frame. -/
theorem test_meets_own_frames_and_crc :
    (List.replicate 240 (0 : Byte)).length ≤ 240 ∧
    (let covered : List Byte := [2, 0, 1, 0]
     4 ≤ covered.length ∧ (covered.getD 3 0).toNat ≤ 240 ∧ covered.length = 4 + (covered.getD 3 0).toNat) := by decide +kernel

/-- A Finding with one result and one with the 24 that a judgement gives at most. -/
theorem test_meets_own_frames_layout :
    (let r : FindingResult := { watchPoint := 3, verdict := .deviate, deviations := 1, ringCut := true, standing := .listFull }
     (Finding.mk 1 2 3 [r]).results.length ≤ 24 ∧ (Finding.mk 1 2 3 (List.replicate 24 r)).results.length ≤ 24 ∧
     encFinding ⟨0x0102, 5, 0x01020304, [r]⟩ = [1, 2, 5, 1, 2, 3, 4, 1, 3, 14, 65]) := by decide +kernel

/-! ### The tracker -/

theorem recordLaw_of (a b : CycleRecord) (judged : Option RecId)
    (h : ¬(a.isOpen = true ∧ b.isOpen = true) ∧ ¬(a.state = .judging ∧ b.state = .judging) ∧ RecordOk a b ∧ RecordOk b a ∧
      (a.state = .judging ↔ judged = some .a) ∧ (b.state = .judging ↔ judged = some .b)) : RecordLaw (recs a b judged) := by
  obtain ⟨h1, h2, h3, h4, h5, h6⟩ := h
  refine ⟨h1, h2, h3, h4, nofun, ?_, ?_, fun _ => ⟨rfl, List.cons_ne_nil _ _⟩⟩
  · cases judged <;> simpa [recs] using h5
  · cases judged <;> simpa [recs] using h6

theorem recordOk_free (other : CycleRecord) : RecordOk (CycleRecord.freed none) other :=
  ⟨by decide +kernel, by (intro h; exact absurd rfl h), rfl, by decide +kernel, by (intro h; cases h), by decide +kernel,
    by decide +kernel, trivial⟩

theorem recordOk_opened (phase : Phase) (other : CycleRecord) : RecordOk (opened phase) other := by
  refine ⟨by (intro h; cases h), fun _ => rfl, rfl, by (constructor <;> intro h <;> cases h), by (intro h; cases h),
    by (intro h; cases h), by (intro h; cases h), ?_⟩
  cases phase
  · trivial
  · rfl
  · exact ⟨rfl, rfl⟩
  · exact ⟨rfl, rfl, rfl⟩
  · rfl

theorem recordOk_judging (number : Half) (other : CycleRecord) : RecordOk (closed .judging number none) other := by
  refine ⟨by (intro h; cases h), fun _ => rfl, rfl, by (constructor <;> intro h <;> cases h), by (intro h; cases h), fun _ => rfl,
    by (intro h; cases h), trivial⟩

theorem recordOk_wait (number n : Half) : RecordOk (closed .wait number none) (closed .judging n none) := by
  refine ⟨by (intro h; cases h), fun _ => rfl, rfl, by (constructor <;> intro h <;> cases h), fun _ => ⟨rfl, rfl⟩,
    by (intro h; cases h), by (intro h; cases h), trivial⟩

theorem law_free : RecordLaw (recs (CycleRecord.freed none) (CycleRecord.freed none) none) :=
  recordLaw_of _ _ _ ⟨by decide +kernel, by decide +kernel, recordOk_free _, recordOk_free _, by decide +kernel⟩

theorem law_opened (phase : Phase) : RecordLaw (recs (opened phase) (CycleRecord.freed none) none) :=
  recordLaw_of (opened phase) (CycleRecord.freed none) none
    ⟨by (rintro ⟨_, h⟩; cases h), by (rintro ⟨h, _⟩; cases h), recordOk_opened _ _, recordOk_free _,
     by (constructor <;> intro h <;> cases h), by decide +kernel⟩

theorem law_judging_opened : RecordLaw (recs (closed .judging 8 none) (opened .settle) (some .a)) :=
  recordLaw_of _ _ _ ⟨by decide +kernel, by decide +kernel, recordOk_judging _ _, recordOk_opened _ _, by decide +kernel⟩

theorem law_judging_wait : RecordLaw (recs (closed .judging 8 none) (closed .wait 9 none) (some .a)) :=
  recordLaw_of _ _ _ ⟨by decide +kernel, by decide +kernel, recordOk_judging _ _, recordOk_wait _ _, by decide +kernel⟩

/-- An OPEN that finds both records FREE, one OPEN, one JUDGING beside an OPEN one, and none to use. -/
theorem test_meets_OpenMark :
    RecordLaw (recs (CycleRecord.freed none) (CycleRecord.freed none) none) ∧
    RecordLaw (recs (opened .fill) (CycleRecord.freed none) none) ∧
    RecordLaw (recs (closed .judging 8 none) (opened .settle) (some .a)) ∧
    RecordLaw (recs (closed .judging 8 none) (closed .wait 9 none) (some .a)) ∧
    (unconfirmed.monitor.state = .unconfirmed ∧ unconfirmed.mould 5 = some mould ∧ mould.header.autoEligible = true ∧
      setup.autoConfirm = true) :=
  ⟨law_free, law_opened _, law_judging_opened, law_judging_wait, by decide +kernel⟩

/-- A watch point that the channel table has, and one that it has not. -/
theorem test_meets_mapping :
    watching.tables.channels[0]? = some channel ∧ watching.mappingOf channel.watchPoint = some ⟨0, 0⟩ ∧
    (∀ e ∈ watching.tables.channels, e.watchPoint ≠ 4) ∧ watching.mappingOf 4 = none := by decide +kernel

/-- CLOSE with a close grace of 0 of a moulded record, alone and beside a JUDGING one, and of an unmoulded one. -/
def hasty (a b : CycleRecord) : State :=
  { recs a b none with tables := { watching.tables with setup := some { setup with closeGrace := 0 } } }

theorem test_meets_hasty_close :
    (let t := (hasty (opened .settle) (CycleRecord.freed none)).takeMark .close 9
     t.tracker.a.state = .judging ∧ t.verdict.judging = some ⟨.a, mould⟩) ∧
    ((hasty (opened .settle) (closed .judging 8 none)).takeMark .close 9).tracker.a.state = .wait ∧
    ((hasty { opened .settle with slot := none, accs := [] } (CycleRecord.freed none)).takeMark .close 9).tracker.a =
      CycleRecord.freed (some 9) ∧
    ((recs (opened .settle) (CycleRecord.freed none) none).takeMark .close 9).tracker.a.graceTimer = some 200 := by
  decide +kernel

theorem test_meets_OtherMarks (phase : Phase) :
    RecordLaw (recs (opened phase) (CycleRecord.freed none) none) ∧ (opened phase).state = .opened phase ∧
    (opened phase).number = some 9 ∧ MarkKind.close ≠ .opening ∧
    ∀ i, ¬((halted.tracker.get i).isOpen = true ∧ (halted.tracker.get i).number = some 9) := by
  refine ⟨law_opened _, rfl, rfl, by decide +kernel, ?_⟩
  intro i
  cases i <;> decide +kernel

theorem test_meets_timers :
    (let s := recs (opened .ring) (CycleRecord.freed none) none
     RecordLaw s ∧ (s.tracker.get .a).isOpen = true ∧ (s.tracker.get .a).cycleTimer.isSome = true ∧
     s.engine.operating = .watching ∧ s.podPresent 0 = true ∧ s.pods[0].timer = .running 100) ∧
    held.stall.timer.isSome = true ∧ (loading halted (.channels []) 1 1).engine.load.isSome = true ∧
    (halted.tracker.get .a).cycleTimer = none ∧ halted.stall.timer = none ∧ halted.engine.load = none ∧
    halted.engine.operating = .halted ∧ halted.podPresent 0 = false ∧ watching.suspendPods.pods[0].timer = .suspended :=
  ⟨⟨law_opened _, by decide +kernel⟩, by decide +kernel⟩

/-- GRACE beside a FREE record, moulded and not, and beside a JUDGING one. -/
theorem test_meets_grace :
    (let s := recs (closed .grace 9 (some 200)) (CycleRecord.freed none) none
     (s.tracker.get .a).state = .grace ∧ (s.tracker.get .a).graceTimer = some 200 ∧
     ¬((s.tracker.get .b).state = .grace ∧ s.tracker.lastClosed = some .a) ∧ (s.tracker.get .a).slot = some 5 ∧
     s.mould 5 = some mould ∧ (s.tracker.get .b).state ≠ .judging) ∧
    ((recs (closed .grace 9 (some 200)) (closed .judging 8 none) (some .b)).tracker.get .b).state = .judging ∧
    ({ closed .grace 9 (some 200) with slot := none, accs := [] } : CycleRecord).slot = none ∧
    (let s := recs (closed .grace 9 (some 200)) (closed .grace 8 (some 200)) none
     { s.tracker with lastClosed := some .a }.lastClosed = some .a ∧ (s.tracker.get RecId.a.other).state = .grace) := by
  decide +kernel

/-! ### The mould monitor and the feature engine -/

/-- WATCHING with a debounce period in progress on each input. -/
def debouncing : State :=
  { watching with
    monitor := ⟨⟨6, some 5, some 6, some 50⟩, ⟨false, some true, some false, some 50⟩, .confirmed ⟨5, true⟩⟩ }

/-- The code 6 in a first period, CLAMP asserted, with no mould state. -/
def firstPeriod : State :=
  { halted with monitor := ⟨⟨6, none, some 6, some 50⟩, ⟨true, some true, none, none⟩, .none⟩ }

theorem law_debouncing (state : MouldState) (h : state = .unconfirmed ∨ state = .confirmed ⟨5, true⟩) :
    MonitorLaw { debouncing with monitor := { debouncing.monitor with state := state } } := by
  refine ⟨⟨rfl, rfl, fun h => nomatch h⟩, ⟨rfl, rfl, fun h => nomatch h⟩, ?_⟩
  rcases h with rfl | rfl
  · exact ⟨rfl, rfl⟩
  · exact ⟨rfl, rfl, rfl, by decide +kernel⟩

theorem test_meets_debounce :
    (debouncing.debouncing .code = true ∧ debouncing.debouncing .clamp = true ∧ firstPeriod.debouncing .code = true) ∧
    MonitorLaw debouncing ∧ MonitorLaw { debouncing with monitor := { debouncing.monitor with state := .unconfirmed } } ∧
    MonitorLaw firstPeriod ∧ RecordLaw (recs (CycleRecord.freed none) (CycleRecord.freed none) none) ∧
    ((6 : Fin 16) ≠ watching.monitor.code.raw ∧ false ≠ watching.monitor.clamp.raw) :=
  ⟨by decide +kernel, law_debouncing _ (.inr rfl), law_debouncing _ (.inl rfl),
   ⟨⟨rfl, rfl, by decide +kernel⟩, ⟨rfl, rfl⟩, .inr rfl⟩, law_free, by decide +kernel⟩

def copy (phase : ExamPhase) : Copy := ⟨0, 0, 9, phase, 1, List.replicate 32 0, 0⟩

/-- A block that one record takes, one that it leaves for being a RING block in VIBE, and one that none takes. -/
theorem test_meets_examine :
    (let s := { recs (opened .vibe) (CycleRecord.freed none) none with exam := [copy .ring] }
     s.exam = [copy .ring] ∧ s.tracker.attribute (copy .ring) = some .a ∧ s.tables.channels[(copy .ring).entry]? = some channel) ∧
    (recs (opened .strip) (CycleRecord.freed none) none).tracker.attribute (copy .strip) = some .a ∧
    watching.tracker.attribute (copy .vibe) = none := by decide +kernel

/-- The differences at the ends of their ranges: 1, 128, 129 and 0. -/
theorem test_sequence_boundaries :
    missingBefore (some 255) 0 = some 0 ∧ missingBefore (some 0) 128 = some 127 ∧ missingBefore (some 0) 129 = none ∧
    missingBefore (some 7) 7 = none := by decide +kernel

/-- A block of each phase, by the thresholds and the span of its channel entry. -/
theorem test_block_by_phase :
    (acc.block channel (some bands) (copy .vibe)).vibe.counted = 1 ∧
    (acc.block channel (some bands) (copy .ring)).ring.state = .ended ∧
    (acc.block channel (some bands) { copy .strip with samples := [101, 101, 100] }).strip = ⟨1, 8 - 1, some 1⟩ := by
  decide +kernel

/-- An OK Reply carries its data. -/
theorem test_ok_reply :
    encReply ⟨0, 3, 7, .ok (.restarted .halted .restart)⟩ = [3, 7, 0] ++ encOk (.restarted .halted .restart) ∧
    encOk (.restarted .halted .restart) = [0, 2] := by decide +kernel

theorem test_meets_blocks :
    missingBefore (some 0) (copy .ring).sequence = some 0 ∧ missingBefore (some 255) (copy .ring).sequence = some 1 ∧
    ((⟨.counting, 254, some 0⟩ : RingPart).block 0 (copy .ring)).count = 255 ∧
    ((⟨.counting, 254, some 0⟩ : RingPart).block 0 (copy .ring)).state = .ended ∧
    ((⟨.counting, 253, some 0⟩ : RingPart).block 0 (copy .ring)).state = .counting ∧
    ((⟨.waiting, 0, none⟩ : RingPart).block 1 (copy .ring)).state = .ended ∧
    scan 4 2 [5, 5, 5, 4] 254 0 = (255, 0) := by decide +kernel

/-- One band over one sample: the bounds agree on one level. -/
def history : BandHistory := [(⟨300, 700⟩, [30000])]

theorem test_meets_band_energy :
    BandsInRange history ∧
    (match bandEnergy (precision history) history, levelBounds (precision history) 1 history with
     | some _, some b => b.1 == b.2 && bandLevel 1 history == b.1
     | _, _ => false) = true := by
  refine ⟨?_, by decide +kernel⟩
  intro b hb
  have : b = (⟨300, 700⟩, [30000]) := by simpa [history] using hb
  subst this
  decide +kernel

/-! ### Judgement -/

/-- Mapped and seen, mapped and blind, and not mapped. -/
theorem test_meets_verdicts :
    (closed .judging 9 none).accs.find? (fun y => y.watchPoint == profile.watchPoint) = some acc ∧
    acc.mapping = some ⟨0, 0⟩ ∧ ({ acc with mapping := none } : Accumulator).mapping = none ∧
    (judgeProfile (closed .judging 9 none) mould.header profile).verdict = .blind ∧
    (mappedResult 0 mould.header profile ⟨0, 0⟩ { acc with vibe := ⟨1, 0, none, []⟩, strip := ⟨255, 0, none⟩ }).verdict = .deviate ∧
    mould.profiles[0]? = some profile ∧
    (mappedResult 0 mould.header { profile with bands := ⟨none, none, none, none⟩ } ⟨0, 0⟩
      { acc with vibe := ⟨1, 0, none, []⟩ }).ringCut = true := by decide +kernel

def judged (v : Verdict) : SummaryEntry := ⟨3, v, ⟨700, 0, 0, 0⟩, 0, none, 1, false, 0, 1, 0, .notListed⟩

/-- A list without the entry, with room and full; with a CONFIRMED and with a SUSPECT one. -/
theorem test_meets_list :
    entryFor [] 5 3 = none ∧
    (let list := List.replicate 32 { entry with slot := 6 }
     entryFor list 5 3 = none ∧ 32 ≤ list.length) ∧
    (entryFor [entry] 5 3 = some entry ∧ entry.state = .confirmed ∧
      [entry].Pairwise fun d e => ¬(d.slot = e.slot ∧ d.watchPoint = e.watchPoint)) ∧
    (entryFor [{ entry with state := .suspect }] 5 3 = some { entry with state := .suspect }) ∧
    (pushWindow 1 [.deviate] .clean).length = 1 ∧ dCount (pushWindow 1 [.deviate] .clean) = 0 ∧
    dCount (pushWindow 2 [.deviate] .deviate) = 2 ∧
    standingOf ⟨[entry], [], [], []⟩ 5 3 = .confirmed ∧ standingOf ⟨[{ entry with state := .suspect }], [], [], []⟩ 5 3 = .suspect ∧
    standingOf ⟨[], [], [], [3]⟩ 5 3 = .listFull ∧ standingOf ⟨[], [], [], []⟩ 5 3 = .notListed := by decide +kernel

theorem test_meets_drift :
    resultFor [judged .clean] profile = some (judged .clean) ∧ ProfileOk mould.header.driftLimit profile ∧
    drifts [] mould.header 5 (judged .clean) = true ∧ drifts [entry] mould.header 5 (judged .clean) = false ∧
    driftLimited [] mould.header 5 [judged .clean] profile = true := by
  refine ⟨by decide +kernel, ?_, by decide +kernel⟩
  refine ⟨⟨by decide +kernel, by decide +kernel⟩, trivial, trivial, trivial, by decide +kernel, ?_, ?_, by decide +kernel⟩
  · intro l h
    cases h
    decide +kernel
  · intro w h
    cases h
    decide +kernel

/-- A judgement with a second record in WAIT, and with none. -/
theorem test_meets_completion :
    (let s := recs (closed .judging 8 none) (closed .wait 9 none) (some .a)
     NoIdleWait s ∧ s.verdict.judging = some ⟨.a, mould⟩ ∧ (s.tracker.get .a).slot = some 5 ∧
     (s.tracker.get .a).number = some 8 ∧ s.mould 5 = some mould ∧ (s.tracker.get .b).state = .wait) ∧
    ((recs (closed .judging 8 none) (CycleRecord.freed none) (some .a)).tracker.get .b).state ≠ .wait ∧
    (∃ t, execJudgementCompletion (recs (closed .judging 8 none) (closed .wait 9 none) (some .a)) = .next t ∧
      t.verdict.judging = some ⟨.b, { mould with profiles := [{ profile with blindStreak := 1 }], judged := 1 }⟩ ∧
      t.tracker.a = CycleRecord.freed (some 8)) := by
  refine ⟨?_, by decide +kernel, ⟨_, rfl, by decide +kernel⟩⟩
  unfold NoIdleWait
  decide +kernel

/-! ### Requests -/

theorem test_meets_turns :
    halted.engine.inbox = [] ∧ (List.replicate 12 (OwnFrame.notice halted.noticeNow)).length = 12 ∧
    requestRow none (req 1 []) ≠ .readStatus ∧ requestRow none (req 1 [0]) = .unknownRequest ∧
    requestRow none (req 3 [0]) = .unknownRequest ∧ requestRow none (req 3 [7]) = .restart ∧
    requestRow none (req 3 [8]) = .unknownRequest ∧ requestRow none (req 3 [6]) = .halt ∧ requestRow none (req 3 [4]) = .start ∧
    requestRow none (req 8 [1]) = .unknownRequest ∧ requestRow none (req 22 []) = .unknownRequest := by decide +kernel

/-- With a load open, with none in WATCHING, and with none for the two requests about a load. -/
theorem test_meets_permissions :
    Ready (asked (loading halted (.channels []) 1 1) 4 (List.replicate 52 0)) .loadSetup ∧
    Ready (asked watching 4 (List.replicate 52 0)) .loadSetup ∧ Ready (asked halted 9 []) .loadAbort ∧
    Ready (asked (loading halted (.channels []) 1 1) 9 []) .loadAbort ∧ Ready (asked halted 8 [0]) .loadContinue :=
  ⟨ready_of (r := req 4 (List.replicate 52 0)) (by decide +kernel), ready_of (r := req 4 (List.replicate 52 0)) (by decide +kernel),
   ready_of (r := req 9 []) (by decide +kernel), ready_of (r := req 9 []) (by decide +kernel), ready_of (r := req 8 [0]) (by decide +kernel)⟩

theorem test_meets_identity_and_status :
    Ready (asked halted 1 []) .identify ∧ Ready (asked watching 2 []) .readStatus ∧ Ready (asked halted 0 []) .unknownRequest :=
  ⟨ready_of (r := req 1 []) (by decide +kernel), ready_of (r := req 2 []) (by decide +kernel), ready_of (r := req 0 []) (by decide +kernel)⟩

/-- START and HALT in either state, RESTART; and the tables on which each check of START fails. -/
theorem test_meets_control :
    Ready (asked watching 3 [4]) .start ∧ Ready (asked halted 3 [4]) .start ∧ Ready (asked loaded 3 [4]) .start ∧
    Ready (asked watching 3 [2]) .halt ∧ Ready (asked halted 3 [6]) .halt ∧ Ready (asked watching 3 [1]) .restart ∧
    (halted.tables.setup = none ∧ loaded.tables.setup.isSome = true ∧ loaded.tables.channels ≠ [] ∧
      loaded.podPresent channel.pod = true ∧ loaded.tables.bandSets[channel.bandSet] ≠ none) ∧
    (let s := { loaded with tables := { loaded.tables with setup := some { setup with pods := Vector.replicate 8 ⟨false, 100⟩ } } }
     s.podPresent channel.pod = false) ∧
    halted.tables.bandSets[channel.bandSet] = none :=
  ⟨ready_of (r := req 3 [4]) (by decide +kernel), ready_of (r := req 3 [4]) (by decide +kernel), ready_of (r := req 3 [4]) (by decide +kernel),
   ready_of (r := req 3 [2]) (by decide +kernel), ready_of (r := req 3 [6]) (by decide +kernel), ready_of (r := req 3 [1]) (by decide +kernel),
   by decide +kernel⟩

/-- The setup record of the reset pods, at the lower ends of its ranges. -/
def setupBody : List Byte :=
  (List.replicate 8 ([0, 0, 5] : List Byte)).flatten ++ [0, 10, 0, 0, 1, 0, 10, 0, 100, 0, 0, 0, 0] ++ List.replicate 15 3

/-- A pair of slot 7 with the widest band in every place. -/
def pairBody : List Byte := 7 :: (List.replicate 4 ([0, 10, 78, 32] : List Byte)).flatten

theorem test_meets_setup_and_band_sets :
    Ready (asked halted 4 setupBody) .loadSetup ∧ setupFault setupBody = none ∧
    setupFault (2 :: setupBody.drop 1) = some 1 ∧ setupFault (setupBody.take 51 ++ [4]) = some 32 ∧
    Ready (asked halted 5 [0]) .loadBandSets ∧ Ready (asked halted 5 (1 :: pairBody)) .loadBandSets ∧
    pairsFault (pairsOf (1 :: pairBody)) [] 1 = none ∧
    pairsFault (pairsOf (2 :: (pairBody ++ pairBody))) [] 1 = some (.duplicateSlot, 2) ∧
    pairsFault (pairsOf (1 :: 8 :: pairBody.drop 1)) [] 1 = some (.fieldRange, 1) :=
  ⟨ready_of (r := req 4 setupBody) (by decide +kernel), by decide +kernel, by decide +kernel, by decide +kernel, ready_of (r := req 5 [0]) (by decide +kernel),
   ready_of (r := req 5 (1 :: pairBody)) (by decide +kernel), by decide +kernel⟩

/-- A channel record at the lower ends of its ranges. -/
def channelBody : List Byte := [1, 0, 0, 0, 0, 1, 1, 0, 0, 0]

/-- A mould of code 5 and one profile: what precedes its count byte. -/
def mouldHead : List Byte := [5, 0, 0, 0, 7, 1, 1, 2, 0, 0, 0, 1, 0, 1]

/-- A profile of watch point 3 with band 1. -/
def profileBody : List Byte := [3, 1, 0, 0, 0, 1] ++ List.replicate 17 0

/-- Loads that open, that commit at once, that are turned away by their counts, and that empty the table. -/
theorem test_meets_loads :
    Ready (asked halted 6 [0, 0]) .loadChannels ∧ Ready (asked halted 6 [33, 0]) .loadChannels ∧
    Ready (asked halted 6 [2, 0]) .loadChannels ∧ Ready (asked halted 6 ([1, 1] ++ channelBody)) .loadChannels ∧
    Ready (asked halted 7 (mouldHead ++ [0])) .loadMould ∧ Ready (asked halted 7 (mouldHead ++ [1] ++ profileBody)) .loadMould ∧
    Ready (asked halted 7 (16 :: mouldHead.drop 1 ++ [0])) .loadMould ∧ Ready (asked watching 7 (mouldHead ++ [0])) .loadMould ∧
    watching.inUse 5 = true ∧ halted.inUse 5 = false :=
  ⟨ready_of (r := req 6 [0, 0]) (by decide +kernel), ready_of (r := req 6 [33, 0]) (by decide +kernel), ready_of (r := req 6 [2, 0]) (by decide +kernel),
   ready_of (r := req 6 ([1, 1] ++ channelBody)) (by decide +kernel), ready_of (r := req 7 (mouldHead ++ [0])) (by decide +kernel),
   ready_of (r := req 7 (mouldHead ++ [1] ++ profileBody)) (by decide +kernel),
   ready_of (r := req 7 (16 :: mouldHead.drop 1 ++ [0])) (by decide +kernel), ready_of (r := req 7 (mouldHead ++ [0])) (by decide +kernel),
   by decide +kernel⟩

theorem test_meets_continue :
    Ready (asked (loading halted (.channels []) 2 2) 8 (1 :: channelBody)) .loadContinue ∧
    Ready (asked (loading halted (.channels []) 1 1) 8 (1 :: channelBody)) .loadContinue ∧
    Ready (asked (loading halted (.channels []) 1 1) 8 [0]) .loadContinue ∧
    Ready (asked (loading halted (.mould 5 (rawHeaderAt mouldHead 1) []) 1 1) 8 (1 :: profileBody)) .loadContinue :=
  ⟨ready_of (r := req 8 (1 :: channelBody)) (by decide +kernel), ready_of (r := req 8 (1 :: channelBody)) (by decide +kernel),
   ready_of (r := req 8 [0]) (by decide +kernel), ready_of (r := req 8 (1 :: profileBody)) (by decide +kernel)⟩

/-- The records on which each check of the two commits fails, and records that pass. -/
theorem test_meets_commits :
    (let c := rawChannelAt channelBody 0
     let ended := fun records : List RawChannel => (commitLoad ⟨.channels records, 1, 0, 1000⟩ halted).2
     ended [c] = .done 1 ∧ ended [{ c with pod := 9 }] = .refused .fieldRange 1 ∧
     ended [c, c] = .refused .duplicateChannel 2 ∧ ended [c, { c with channel := 1 }] = .refused .duplicateWatchPoint 2) ∧
    (let h := rawHeaderAt mouldHead 1
     let p := rawProfileAt profileBody 0
     let ended := fun (s : State) (h : RawHeader) (ps : List RawProfile) => (commitLoad ⟨.mould 5 h ps, 1, 0, 1000⟩ s).2
     ended { halted with suspects := [entry] } h [p] = .done 1 ∧ ended halted h [p, p] = .refused .watchPointOrder 2 ∧
     ended halted { h with driftShift := 8 } [p] = .refused .fieldRange 0 ∧
     ended halted h [p, { p with watchPoint := 24 }] = .refused .fieldRange 2 ∧
     ended halted { h with k := 3 } [p] = .refused .kAboveN 0 ∧ ended watching h [p] = .inUse 5) := by decide +kernel

theorem test_meets_reads :
    Ready (asked watching 10 [5, 0]) .readMould ∧ Ready (asked watching 10 [16, 0]) .readMould ∧
    Ready (asked watching 12 [31]) .readSuspects ∧ Ready (asked watching 12 [32]) .readSuspects ∧
    Ready (asked watching 14 [23]) .readCycle ∧ Ready (asked watching 14 [24]) .readCycle ∧
    watching.mould 5 = some mould ∧ watching.mould 0 = none ∧ watching.verdict.summary = none ∧
    ({ watching with verdict := ⟨none, some ⟨8, 5, 7, []⟩⟩ } : State).verdict.summary.isSome = true :=
  ⟨ready_of (r := req 10 [5, 0]) (by decide +kernel), ready_of (r := req 10 [16, 0]) (by decide +kernel),
   ready_of (r := req 12 [31]) (by decide +kernel), ready_of (r := req 12 [32]) (by decide +kernel), ready_of (r := req 14 [23]) (by decide +kernel),
   ready_of (r := req 14 [24]) (by decide +kernel), by decide +kernel⟩

/-- The checks of CONFIRM_MOULD, each failing and all passing. -/
theorem test_meets_confirm :
    Ready (asked unconfirmed 11 [5, 0, 0, 0, 7]) .confirmMould ∧ Ready (asked unconfirmed 11 [16, 0, 0, 0, 7]) .confirmMould ∧
    unconfirmed.monitor.clamp.debounced = some true ∧ halted.monitor.clamp.debounced ≠ some true ∧
    unconfirmed.monitor.code.debounced = some 5 ∧ unconfirmed.monitor.code.debounced ≠ some 6 ∧
    unconfirmed.mould 5 = some mould ∧ mould.header.serial.toNat = 7 ∧ mould.header.serial.toNat ≠ 8 :=
  ⟨ready_of (r := req 11 [5, 0, 0, 0, 7]) (by decide +kernel), ready_of (r := req 11 [16, 0, 0, 0, 7]) (by decide +kernel), by decide +kernel⟩

/-- A listed watch point with a profile, with the release and the relearn; a carried slot; and a slot with no such profile. -/
theorem test_meets_release :
    Ready (asked { loaded with suspects := [entry] } 13 [5, 3, 1]) .releaseSuspect ∧
    Ready (asked { loaded with suspects := [entry] } 13 [5, 3, 2]) .releaseSuspect ∧
    ([entry].find? fun d => d.slot == 5 && d.watchPoint == 3) = some entry ∧ loaded.carried 5 = false ∧
    (recs (closed .judging 8 none) (CycleRecord.freed none) (some .a)).carried 5 = true ∧ mould.watches 3 = true ∧
    mould.watches 4 = false :=
  ⟨ready_of (r := req 13 [5, 3, 1]) (by decide +kernel), ready_of (r := req 13 [5, 3, 2]) (by decide +kernel), by decide +kernel⟩

theorem test_meets_conditions :
    Ready (asked unconfirmed 15 [127, 255]) .clearConditions ∧ Ready (asked unconfirmed 15 [128, 0]) .clearConditions ∧
    Ready (asked unconfirmed 16 [127, 255]) .setEnables ∧ Ready (asked unconfirmed 16 [128, 0]) .setEnables ∧
    unconfirmed.engine.load = none :=
  ⟨ready_of (r := req 15 [127, 255]) (by decide +kernel), ready_of (r := req 15 [128, 0]) (by decide +kernel),
   ready_of (r := req 16 [127, 255]) (by decide +kernel), ready_of (r := req 16 [128, 0]) (by decide +kernel), by decide +kernel⟩

/-- The trace buffer in a state. -/
def traced (t : Trace) : State := { watching with trace := t }

theorem test_meets_trace :
    Ready (asked (traced (.running 0 [])) 18 []) .traceFreeze ∧ Ready (asked (traced (.frozen 0 [copy .vibe])) 19 []) .traceUnfreeze ∧
    Ready (asked (traced .off) 18 []) .traceFreeze ∧ Ready (asked (traced .off) 17 [0]) .traceSelect ∧
    Ready (asked (traced .off) 17 [1]) .traceSelect ∧ Ready (asked (traced .off) 17 [32]) .traceSelect ∧
    Ready (asked (traced (.frozen 0 [copy .vibe])) 20 [0]) .traceRead ∧ Ready (asked (traced (.frozen 0 [])) 20 [63]) .traceRead ∧
    Ready (asked (traced .off) 20 [64]) .traceRead ∧ Ready (asked (traced .off) 21 []) .traceOff :=
  ⟨ready_of (r := req 18 []) (by decide +kernel), ready_of (r := req 19 []) (by decide +kernel), ready_of (r := req 18 []) (by decide +kernel),
   ready_of (r := req 17 [0]) (by decide +kernel), ready_of (r := req 17 [1]) (by decide +kernel), ready_of (r := req 17 [32]) (by decide +kernel),
   ready_of (r := req 20 [0]) (by decide +kernel), ready_of (r := req 20 [63]) (by decide +kernel), ready_of (r := req 20 [64]) (by decide +kernel),
   ready_of (r := req 21 []) (by decide +kernel)⟩

/-! ### The laws -/

/-- A state with a judgement, an OPEN record and a suspect entry, in which every law holds, and its next step. -/
def sound : State :=
  { recs (closed .judging 8 none) (opened .settle) (some .a) with
    pending := [.judgementCompletion]
    suspects := [entry]
    cond := ⟨Condition.crack.bit, 0⟩
    lines := ⟨false, 13⟩ }

theorem mouldOk_mould : MouldOk mould := by
  simpa [MouldOk, mould] using test_meets_drift.2.1

theorem test_meets_the_laws : Sound sound ∧ ∃ t, step sound = .next t := by
  have hm : ∀ slot m, sound.mould slot = some m → slot = 5 ∧ m = mould := by
    intro slot m h
    fin_cases slot
    all_goals first | exact ⟨rfl, (Option.some.inj h).symm⟩ | exact nomatch h
  refine ⟨⟨?_, ?_, ?_, ?_, ?_, law_judging_opened, channelLaw_watching, ?_, trivial, ?_, ?_, ?_, ?_, ?_, ?_⟩, _, rfl⟩
  · exact ⟨by decide +kernel, by decide +kernel⟩
  · unfold LinesLaw
    decide +kernel
  · intro c
    cases c <;> decide +kernel
  · unfold QueueLaw
    decide +kernel
  · unfold FlowLaw
    decide +kernel
  · exact ⟨nofun, fun _ => rfl, trivial⟩
  · intro slot m h
    obtain ⟨_, rfl⟩ := hm slot m h
    exact mouldOk_mould
  · exact ⟨⟨rfl, rfl⟩, ⟨rfl, rfl⟩, rfl, rfl, rfl, by decide +kernel⟩
  · refine ⟨?_, ?_, ?_⟩
    · rintro slot h
      cases Option.some.inj h
      exact ⟨fun _ => rfl, mould, rfl, rfl⟩
    · rintro slot h
      cases Option.some.inj h
      exact ⟨fun _ => rfl, mould, rfl, rfl⟩
    · rintro j h
      cases Option.some.inj h
      exact ⟨5, rfl, rfl⟩
  · refine ⟨by simp [sound], ?_⟩
    intro e he
    have : e = entry := by simpa [sound] using he
    subst this
    exact ⟨mould, rfl, by decide +kernel, by decide +kernel, by decide +kernel, by decide +kernel, rfl⟩
  · intro p
    fin_cases p <;> rfl
  · exact ⟨⟨rfl, nofun, nofun⟩, ⟨rfl, nofun, nofun⟩, nofun, nofun, fun _ => rfl, nofun⟩

end Sys2Proof.Tests
end

section
/-! The verdict of a mapped profile, and the features it compares (R76 to R80). A mapped profile reaches comparison just when
no blind cause holds; from there each bit of its deviation set is one feature's own comparison. -/

namespace Sys2Proof.Machine

section
variable {silenced : BitVec 8} {h : MouldHeader} {p : Profile} {m : Mapping} {x : Accumulator}

@[simp] theorem mappedResult_hits : (mappedResult silenced h p m x).hits = x.strip.hits := rfl

@[simp] theorem mappedResult_ringDown : (mappedResult silenced h p m x).ringDown = x.ring.ringDown := rfl

/-- A blind cause keeps the profile from comparison: the marker stays clear (R76, R79). -/
theorem mappedResult_of_blindCauses_ne_zero (hb : blindCauses silenced h m x.vibe ≠ 0#3) :
    (mappedResult silenced h p m x).verdict = .blind ∧ (mappedResult silenced h p m x).ringCut = false := by
  simp [mappedResult, hb]

/-- With no blind cause the profile is compared: what its verdict, its deviation set and its marker then are (R77 to R80). -/
theorem mappedResult_of_blindCauses_eq_zero (hb : blindCauses silenced h m x.vibe = 0#3) :
    let y := mappedResult silenced h p m x
    let dev := deviationsOf p y.levels x.strip.hits x.ring.ringDown
    y.verdict = (if dev = 0 then .clean else .deviate) ∧ y.deviations = dev ∧
      y.ringCut = ringCutOf p.ringWindow x.ring.ringDown := by
  simp [mappedResult, hb]

theorem mappedResult_verdict_ne_blind_iff :
    (mappedResult silenced h p m x).verdict ≠ .blind ↔ blindCauses silenced h m x.vibe = 0#3 := by
  by_cases hb : blindCauses silenced h m x.vibe = 0#3
  · obtain ⟨hverdict, -, -⟩ := mappedResult_of_blindCauses_eq_zero (p := p) hb
    rw [hverdict]
    split <;> simp [hb]
  · obtain ⟨hverdict, -⟩ := mappedResult_of_blindCauses_ne_zero (p := p) hb
    simp [hverdict, hb]

/-- A compared profile is CLEAN or DEVIATE (R80). -/
theorem mappedResult_verdict_of_compared (hv : (mappedResult silenced h p m x).verdict ≠ .blind) :
    (mappedResult silenced h p m x).verdict = .clean ∨ (mappedResult silenced h p m x).verdict = .deviate := by
  have hb := mappedResult_verdict_ne_blind_iff.mp hv
  obtain ⟨hverdict, -, -⟩ := mappedResult_of_blindCauses_eq_zero (p := p) hb
  rw [hverdict]
  split <;> simp

/-- The deviation set of a compared profile holds *hits* just by the comparison of the hits (R78). -/
theorem mappedResult_deviates_hits_iff (hv : (mappedResult silenced h p m x).verdict ≠ .blind) :
    (mappedResult silenced h p m x).deviations.getLsbD 4 = true ↔ ∃ l, p.hitLimit = some l ∧ l < x.strip.hits := by
  have hb := mappedResult_verdict_ne_blind_iff.mp hv
  obtain ⟨-, hdev, -⟩ := mappedResult_of_blindCauses_eq_zero (p := p) hb
  rw [hdev, deviationsOf_hits, hitsDeviate_iff]

/-- The deviation set of a compared profile holds *ring* just by the comparison of the ring-down (R79). -/
theorem mappedResult_deviates_ring_iff (hv : (mappedResult silenced h p m x).verdict ≠ .blind) :
    (mappedResult silenced h p m x).deviations.getLsbD 5 = true ↔
      ∃ w n, p.ringWindow = some w ∧ x.ring.ringDown = some n ∧ (n < w.1 ∨ w.2 < n) := by
  have hb := mappedResult_verdict_ne_blind_iff.mp hv
  obtain ⟨-, hdev, -⟩ := mappedResult_of_blindCauses_eq_zero (p := p) hb
  rw [hdev, deviationsOf_ring, ringDeviates_iff]

/-- The ring-cut marker needs comparison, a window and a CUT ring-down (R79). -/
theorem mappedResult_ringCut_iff :
    (mappedResult silenced h p m x).ringCut = true ↔
      (mappedResult silenced h p m x).verdict ≠ .blind ∧ p.ringWindow.isSome = true ∧ x.ring.ringDown = none := by
  rw [mappedResult_verdict_ne_blind_iff]
  by_cases hb : blindCauses silenced h m x.vibe = 0#3
  · obtain ⟨-, -, hcut⟩ := mappedResult_of_blindCauses_eq_zero (p := p) hb
    simp [hcut, hb, ringCutOf]
  · obtain ⟨-, hcut⟩ := mappedResult_of_blindCauses_ne_zero (p := p) hb
    simp [hcut, hb]

end

/-! ### The hit count (R37, R78) -/

theorem scanSample_hits_le {threshold span : Nat} {acc : Nat × Nat} (ha : acc.1 ≤ 255) (x : Sample) :
    (scanSample threshold span acc x).1 ≤ 255 := by
  unfold scanSample
  split
  case isTrue => exact ha
  case isFalse =>
    split
    case isTrue => exact Nat.min_le_left _ _
    case isFalse => exact ha

theorem scan_hits_le {threshold span hits carry : Nat} (samples : List Sample) (hh : hits ≤ 255) :
    (scan threshold span samples hits carry).1 ≤ 255 :=
  List.foldlRecOn samples (scanSample threshold span) (motive := fun acc => acc.1 ≤ 255) hh
    fun _ ha x _ => scanSample_hits_le ha x

/-- A STRIP block, accepted or ignored, never takes the hit count past 255 (R30, R37). -/
theorem StripPart.block_hits_le {x : StripPart} {threshold span : Nat} {c : Copy} (hx : x.hits ≤ 255) :
    (x.block threshold span c).hits ≤ 255 := by
  unfold StripPart.block
  split
  · exact scan_hits_le c.samples hx
  · exact hx

/-- Settles O31: on a compared profile *hits* deviates by `mappedResult_deviates_hits_iff` alone, and the cases of R78 are that
comparison at a given limit or count; the count stays within 255 through every sample of a scan. -/
theorem hitsDeviateAboveTheLimit : Obligations.HitsDeviateAboveTheLimit := by
  refine ⟨fun silenced h p m x => ⟨mappedResult_hits, fun hv => ?_⟩, fun _ _ _ _ => StripPart.block_hits_le⟩
  rw [mappedResult_deviates_hits_iff hv]
  refine ⟨fun l hl => ?_, fun hl => ?_, fun l hl hle hsat => ?_, fun hl hpos => ?_, fun hl => ?_⟩
  · simp [hl]
  · simp [hl]
  · exact ⟨l, hl, by omega⟩
  · exact ⟨0, hl, hpos⟩
  · simp [hl]

/-- Settles O32: on a compared profile *ring* deviates by `mappedResult_deviates_ring_iff` alone, and the cases of R79 are that
comparison with a window and a count, or with one of the two absent. -/
theorem ringDownAgainstItsWindow : Obligations.RingDownAgainstItsWindow := by
  refine fun silenced h p m x => ⟨mappedResult_ringDown, fun hv => ?_, mappedResult_ringCut_iff,
    mappedResult_verdict_of_compared⟩
  rw [mappedResult_deviates_ring_iff hv]
  refine ⟨fun lo hi n hw hn => ?_, fun lo hw hlo hn => ?_, fun hcut => ?_, fun hw => ?_⟩
  · simp [hw, hn]
  · simp [hw, hn, hlo]
  · simp [hcut]
  · simp [hw]

end Sys2Proof.Machine
end

section
/-! The coded lines (R122). The code of a class is that of its first set flag, by a search through the conditions in code order;
the number carried is the code of the highest class that shows one. -/

namespace Sys2Proof.Machine

/-! ### The conditions in code order, and the rank of a class -/

theorem Condition.mem_all (c : Condition) : c ∈ Condition.all := by
  cases c <;> decide

/-- The list of the conditions is in code order (R113). -/
theorem Condition.all_pairwise_index_lt : Condition.all.Pairwise fun c d => c.index < d.index := by decide

/-- STOP over WARN over ADVISE; NONE stands below them all (R122). -/
def CondClass.rank : CondClass → Nat
  | .none => 0
  | .advise => 1
  | .warn => 2
  | .stop => 3

namespace State

variable {s : State} {x : CondClass} {c : Condition}

/-! ### The set flags of one class -/

theorem anyOfClass_iff : s.anyOfClass x = true ↔ ∃ c : Condition, c.isIn s.cond.flags = true ∧ s.classOf c = x := by
  simp [anyOfClass, Condition.mem_all]

theorem firstOfClass_eq_none_iff :
    s.firstOfClass x = none ↔ ∀ c : Condition, c.isIn s.cond.flags = true → s.classOf c ≠ x := by
  simp [firstOfClass, Condition.mem_all]

/-- A set flag with the lowest code of its class is the one that the search finds. -/
theorem firstOfClass_eq_some (hset : c.isIn s.cond.flags = true) (hclass : s.classOf c = x)
    (hlowest : ∀ d : Condition, d.isIn s.cond.flags = true → s.classOf d = x → d ≠ c → c.index < d.index) :
    s.firstOfClass x = some (c.index.val + 1) := by
  obtain ⟨before, after, hall⟩ := List.append_of_mem c.mem_all
  have hsorted := Condition.all_pairwise_index_lt
  rw [hall, List.pairwise_append] at hsorted
  obtain ⟨-, -, hlt⟩ := hsorted
  have hbefore : ∀ d ∈ before, (!(d.isIn s.cond.flags && s.classOf d == x)) = true := by
    intro d hd
    have hdc : d.index < c.index := hlt d hd c List.mem_cons_self
    have hne : d ≠ c := fun h => absurd (h ▸ hdc) (lt_irrefl _)
    rw [Bool.not_eq_true', Bool.eq_false_iff]
    intro hfound
    obtain ⟨hdset, hdclass⟩ : d.isIn s.cond.flags = true ∧ s.classOf d = x := by simpa using hfound
    exact hdc.asymm (hlowest d hdset hdclass hne)
  have hfind : (Condition.all.find? fun d => d.isIn s.cond.flags && s.classOf d == x) = some c :=
    List.find?_eq_some_iff_append.mpr ⟨by simp [hset, hclass], before, after, hall, hbefore⟩
  rw [firstOfClass, hfind, Option.map_some]

/-! ### The number carried -/

/-- Where every higher class shows no flag, the number carried is the code that the class shows. -/
theorem codedNumber_of_firstOfClass {n : Nat} (hx : x ≠ .none) (hfirst : s.firstOfClass x = some n)
    (hhigher : ∀ y : CondClass, x.rank < y.rank → s.firstOfClass y = none) : s.codedNumber = n := by
  cases x with
  | none => exact absurd rfl hx
  | advise => simp [codedNumber, hhigher .stop (by decide), hhigher .warn (by decide), hfirst]
  | warn => simp [codedNumber, hhigher .stop (by decide), hfirst]
  | stop => simp [codedNumber, hfirst]

/-- A set flag of a class other than NONE: one that the coded lines may carry (R122). -/
def Shown (s : State) (c : Condition) : Prop := c.isIn s.cond.flags = true ∧ s.classOf c ≠ .none

theorem codedNumber_of_not_shown (hnone : ∀ c, ¬ s.Shown c) : s.codedNumber = 0 := by
  have hempty (y : CondClass) (hy : y ≠ .none) : s.firstOfClass y = none :=
    firstOfClass_eq_none_iff.mpr fun c hset hclass => hnone c ⟨hset, hclass ▸ hy⟩
  simp [codedNumber, hempty]

/-- The shown flag that every other shown flag ranks below, by its class and then by its code, gives the number carried (R122). -/
theorem codedNumber_of_highest (hshown : s.Shown c)
    (hhighest : ∀ d, s.Shown d → d ≠ c →
      (s.classOf d).rank < (s.classOf c).rank ∨ ((s.classOf d).rank = (s.classOf c).rank ∧ c.index < d.index)) :
    s.codedNumber = c.index.val + 1 := by
  obtain ⟨hset, hclass⟩ := hshown
  have hfirst : s.firstOfClass (s.classOf c) = some (c.index.val + 1) := by
    refine firstOfClass_eq_some hset rfl fun d hdset hdclass hne => ?_
    have hd := hhighest d ⟨hdset, hdclass ▸ hclass⟩ hne
    rw [hdclass] at hd
    exact (hd.resolve_left (lt_irrefl _)).2
  refine codedNumber_of_firstOfClass hclass hfirst fun y hy => firstOfClass_eq_none_iff.mpr ?_
  rintro d hdset rfl
  have hdclass : s.classOf d ≠ .none := fun h => by simp [h, CondClass.rank] at hy
  have hne : d ≠ c := fun h => absurd (h ▸ hy) (lt_irrefl _)
  have hd := hhighest d ⟨hdset, hdclass⟩ hne
  omega

/-- The four lines hold every code of a condition (R113). -/
theorem toNat_ofNat_code (c : Condition) : (BitVec.ofNat 4 (c.index.val + 1)).toNat = c.index.val + 1 := by
  rw [BitVec.toNat_ofNat]
  omega

end State

/-! ### The lines under their law -/

section
variable {s : State}

theorem LinesLaw.stop_iff (hl : LinesLaw s) :
    s.lines.stop = true ↔ ∃ c : Condition, c.isIn s.cond.flags = true ∧ s.classOf c = .stop := by
  rw [hl]
  exact State.anyOfClass_iff

theorem LinesLaw.signals_of_coded (hl : LinesLaw s) (hm : s.straps.sigMode = .coded) :
    s.lines.signals = BitVec.ofNat 4 s.codedNumber := by
  rw [hl]
  simp [State.evalLines, hm]

end

/-- Settles O5: the lines carry `codedNumber`, which is 0 where no flag is shown and else the code of the highest-ranked one. -/
theorem codedLinesCarryTheHighestRank : Obligations.CodedLinesCarryTheHighestRank := by
  intro s hl hm class' rank shown
  have hrank : rank = CondClass.rank := by funext x; cases x <;> rfl
  have hsignals := hl.signals_of_coded hm
  refine ⟨fun hnone => ?_, fun c hshown hhighest => ?_, hl.stop_iff⟩
  · rw [hsignals, State.codedNumber_of_not_shown hnone]
    rfl
  · rw [hrank] at hhighest
    rw [hsignals, State.codedNumber_of_highest hshown hhighest, State.toNat_ofNat_code]

end Sys2Proof.Machine
end

section
/-! The check value (R134). The register takes a byte in at its high end and then advances by eight bits; the rule takes the bits
in one by one. The two agree because the bits not yet taken in stay apart from the register, moved up by one at each advance. A
register that takes in its own bits is only moved up, so a frame's own value moves it out. -/

namespace Sys2Proof.Machine

/-! ### One bit taken in -/

/-- One bit into the register, as R134 states it: the generator is subtracted when the bit differs from the register's highest. -/
def crcBit (r : Half) (x : Bool) : Half :=
  if r.getLsbD 15 != x then (r <<< 1) ^^^ 0x1021#16 else r <<< 1

/-- The first `k` bits of a byte into the register, most significant bit first. -/
def crcBits (r : Half) (b : Byte) (k : Nat) : Half :=
  (List.range k).foldl (fun r i => crcBit r (b.getLsbD (7 - i))) r

section
variable {r : Half} {b : Byte} {k : Nat}

@[simp] theorem crcBits_zero : crcBits r b 0 = r := rfl

theorem crcBits_succ : crcBits r b (k + 1) = crcBit (crcBits r b k) (b.getLsbD (7 - k)) := by
  simp [crcBits, List.range_succ]

theorem crcBits_eight : crcBits r b 8 = [7, 6, 5, 4, 3, 2, 1, 0].foldl (fun r i => crcBit r (b.getLsbD i)) r := rfl

theorem crcBit_own_msb : crcBit r (r.getLsbD 15) = r <<< 1 := by simp [crcBit]

/-- What is still to be taken in lies over the register: its highest bit is taken in, and the rest of it moves up. -/
theorem crcShift_xor (r z : Half) : crcShift (r ^^^ z) = crcBit r (z.getLsbD 15) ^^^ (z <<< 1) := by
  have hmsb : (r ^^^ z).msb = (r.getLsbD 15 != z.getLsbD 15) := by simp [BitVec.msb_eq_getLsbD_last]
  rw [crcShift, crcBit, hmsb, BitVec.shiftLeft_xor_distrib]
  split
  · ac_rfl
  · rfl

/-- A byte at the register's high end, moved up by `k`, shows its bit `7 - k`. -/
theorem getLsbD_pending (hk : k < 8) : (b.setWidth 16 <<< (8 + k)).getLsbD 15 = b.getLsbD (7 - k) := by
  simp [show 15 - (8 + k) = 7 - k by omega, show ¬ 15 < 8 + k by omega, show 7 - k < 8 by omega]

theorem foldl_crcShift_xor (hk : k ≤ 8) :
    (List.range k).foldl (fun r _ => crcShift r) (r ^^^ (b.setWidth 16 <<< 8)) =
      crcBits r b k ^^^ (b.setWidth 16 <<< (8 + k)) := by
  induction k with
  | zero => rfl
  | succ k ih =>
    rw [List.range_succ, List.foldl_append, ih (by omega)]
    simp only [List.foldl_cons, List.foldl_nil]
    rw [crcShift_xor, getLsbD_pending (by omega), ← crcBits_succ, ← BitVec.shiftLeft_add, Nat.add_assoc]

/-- The model's advance by a byte takes in its eight bits. -/
theorem crcByte_eq_crcBits : crcByte r b = crcBits r b 8 := by
  have hout : (b.setWidth 16 : Half) <<< (8 + 8) = 0 := BitVec.shiftLeft_eq_zero (by decide)
  rw [crcByte, foldl_crcShift_xor le_rfl, hout]
  exact BitVec.xor_zero

/-! ### Lists of bytes -/

theorem crc_append (xs ys : List Byte) : crc (xs ++ ys) = ys.foldl crcByte (crc xs) := by
  simp [crc]

/-! ### The register takes in its own value -/

theorem crcBits_own (hk : k ≤ 8) : crcBits r (r.extractLsb' 8 8) k = r <<< k := by
  induction k with
  | zero => simp
  | succ k ih =>
    have hbit : (r.extractLsb' 8 8).getLsbD (7 - k) = (r <<< k).getLsbD 15 := by
      rw [BitVec.getLsbD_extractLsb', BitVec.getLsbD_shiftLeft, show 8 + (7 - k) = 15 - k by omega]
      simp [show 7 - k < 8 by omega, show ¬ 15 < k by omega]
    rw [crcBits_succ, ih (by omega), hbit, crcBit_own_msb, BitVec.shiftLeft_add]

theorem crcByte_own_high : crcByte r (r.extractLsb' 8 8) = r <<< 8 := by
  rw [crcByte_eq_crcBits, crcBits_own le_rfl]

/-! ### The value as two bytes -/

theorem enc16_toNat (r : Half) : enc16 r.toNat = [r.extractLsb' 8 8, r.extractLsb' 0 8] := by
  simp [enc16, BitVec.toNat_eq, Nat.shiftRight_eq_div_pow]

theorem toNat_append_byte (x y : Byte) : (x ++ y : Half).toNat = x.toNat * 256 + y.toNat := by
  rw [BitVec.toNat_append, ← Nat.shiftLeft_add_eq_or_of_lt y.isLt, Nat.shiftLeft_eq]

theorem eq_enc16_iff_append (r : Half) (x y : Byte) : [x, y] = enc16 r.toNat ↔ r = x ++ y := by
  rw [enc16_eq_iff, ← toNat_append_byte, BitVec.toNat_inj]

end

/-- The value moves the register out by its two bytes: the first moves the low half up, which the second then meets. -/
theorem crc_append_own (bytes : List Byte) : crc (bytes ++ enc16 (crc bytes).toNat) = 0 := by
  generalize hr : crc bytes = r
  have hlow : r.extractLsb' 0 8 = (r <<< 8).extractLsb' 8 8 := by
    ext i hi
    simp [BitVec.getLsbD_eq_getElem (show i < 16 by omega), show 8 + i < 16 by omega]
  calc crc (bytes ++ enc16 r.toNat)
    _ = crcByte (crcByte r (r.extractLsb' 8 8)) (r.extractLsb' 0 8) := by
      rw [crc_append, hr, enc16_toNat, List.foldl_cons, List.foldl_cons, List.foldl_nil]
    _ = r <<< 8 <<< 8 := by rw [crcByte_own_high, hlow, crcByte_own_high]
    _ = 0 := by rw [← BitVec.shiftLeft_add]; exact BitVec.shiftLeft_eq_zero (by decide)

/-- A frame whose header gives its length passes the receive checks just when its last two bytes are the value over the rest. -/
theorem goodFrame_append_iff {covered : List Byte} (high low : Byte) (hmax : (covered.getD 3 0).toNat ≤ 240)
    (hlen : covered.length = 4 + (covered.getD 3 0).toNat) :
    goodFrame (covered ++ [high, low]) = true ↔ crc covered = high ++ low := by
  have hfield : (covered ++ [high, low]).getD 3 0 = covered.getD 3 0 := List.getD_append _ _ _ _ (by omega)
  have hcut : (covered ++ [high, low]).length - 2 = covered.length := by simp
  have hall : (covered ++ [high, low]).length = covered.length + 2 := by simp
  rw [goodFrame_iff, PassesChecks, hfield, hcut, List.take_left, List.drop_left, eq_enc16_iff_append, hall]
  exact ⟨fun ⟨_, _, _, hcrc⟩ => hcrc, fun hcrc => ⟨by omega, hmax, by omega, hcrc⟩⟩

/-- Settles O18: a byte is its eight bits taken in (`crcByte_eq_crcBits`), and the value is sent and compared as its two bytes. -/
theorem crcIsTheStatedOne : Obligations.CrcIsTheStatedOne := by
  refine ⟨rfl, fun bytes b => ?_, fun kind dest source payload => ?_,
    fun covered high low _ => goodFrame_append_iff high low, crc_append_own⟩
  · rw [crc_append, List.foldl_cons, List.foldl_nil, crcByte_eq_crcBits, crcBits_eight]
    rfl
  · intro covered
    rw [wrapFrame, enc16_toNat]

end Sys2Proof.Machine
end

section
/-! Requests on the trace buffer (R188). Such a request leaves the state as it was but for the trace, and nothing that the end of
a step reads depends on the trace: so the whole step is the Reply and the new trace. -/

namespace Sys2Proof.Machine

variable {s : State} {r : Request}

/-! ### The trace of a state -/

namespace State

theorem setTrace_eq_self {x : Trace} (hx : s.trace = x) : s.setTrace x = s := by
  subst hx
  rfl

/-- Placing an own frame neither reads nor writes the trace. -/
theorem placed_setTrace (s : State) (x : Trace) (f : OwnFrame) : (s.setTrace x).placed f = (s.placed f).setTrace x := by
  simp only [placed, apply_ite (State.setTrace · x)]
  rfl

/-- The end of a step does nothing to a request that changed the trace alone and was answered. -/
theorem settle_setTrace_answeredOnly (hl : LinesLaw s) (rest : List Request) (a : Answer) (x : Trace) :
    settle s ((s.answeredOnly r rest a).setTrace x) = (s.answeredOnly r rest a).setTrace x := by
  have hstanding : (s.answeredOnly r rest a).standing = s.standing :=
    (placed_standing _ _).trans (standing_congr rfl rfl rfl rfl rfl rfl rfl rfl)
  have hlines : (s.answeredOnly r rest a).evalLines = s.evalLines :=
    (placed_evalLines _ _).trans (evalLines_congr rfl rfl rfl rfl)
  refine settle_quiet (placed_cond _ _) ?_ ?_
  · calc ((s.answeredOnly r rest a).setTrace x).standing
      _ = (s.answeredOnly r rest a).standing := standing_congr rfl rfl rfl rfl rfl rfl rfl rfl
      _ = s.standing := hstanding
  · calc ((s.answeredOnly r rest a).setTrace x).lines
      _ = s.lines := placed_lines _ _
      _ = s.evalLines := hl
      _ = (s.answeredOnly r rest a).evalLines := hlines.symm
      _ = ((s.answeredOnly r rest a).setTrace x).evalLines := (evalLines_congr rfl rfl rfl rfl).symm

end State

/-! ### The step of a request on the trace buffer -/

/-- With no load open, a request that needs none passes its checks (R165, R167). -/
theorem answered_noLoad {act : Act} (hload : s.engine.load = none) : answered .noLoad act r s = act r s := by
  simp [answered, gate, hload]

section
variable {rest : List Request} {row : Instr} {act : Act} {a : Answer}

/-- A request whose own part sets the trace and nothing else: the step is its Reply and the new trace. -/
theorem serve_noLoad_setTrace (hi : NoIdleWait s) (hl : LinesLaw s) (hload : s.engine.load = none) (h : Served s row r rest)
    {x : Trace} (ha : act r (s.popped rest) = ((s.popped rest).setTrace x, a)) :
    serve row .noLoad act s = .next { s.answeredOnly r rest a with trace := x } := by
  have hport : ((s.popped rest).setTrace x).NoIdleWaitD := State.popped_noIdleWaitD hi rest
  have hpart : answered .noLoad act r (s.popped rest) = ((s.popped rest).setTrace x, a) :=
    (answered_noLoad (s := s.popped rest) hload).trans ha
  calc serve row .noLoad act s
    _ = .next (State.settle s (((s.popped rest).setTrace x).placed (replyTo r a))) :=
      serve_effects hport h hpart
    _ = .next (State.settle s ((s.answeredOnly r rest a).setTrace x)) := by rw [State.placed_setTrace, State.answeredOnly]
    _ = .next ((s.answeredOnly r rest a).setTrace x) := by rw [State.settle_setTrace_answeredOnly hl]

/-- A request whose own part leaves the state as it was: the step is its Reply. -/
theorem serve_noLoad_same (hi : NoIdleWait s) (hl : LinesLaw s) (hload : s.engine.load = none) (h : Served s row r rest)
    (ha : act r (s.popped rest) = (s.popped rest, a)) : serve row .noLoad act s = .next (s.answeredOnly r rest a) :=
  serve_answers hi hl h ((answered_noLoad (s := s.popped rest) hload).trans ha)

end

/-! ### Freeze and Unfreeze in each trace state (R188) -/

theorem exec_traceFreeze : exec .traceFreeze s = serve .traceFreeze .noLoad actTraceFreeze s := rfl

theorem exec_traceUnfreeze : exec .traceUnfreeze s = serve .traceUnfreeze .noLoad actTraceUnfreeze s := rfl

section
variable {ch : Nat} {ring : List Copy}

theorem actTraceFreeze_of_running (ht : s.trace = .running ch ring) :
    actTraceFreeze r s = (s.setTrace (.frozen ch ring), .ok .empty) := by
  simp [actTraceFreeze, ht]

theorem actTraceFreeze_of_frozen (ht : s.trace = .frozen ch ring) :
    actTraceFreeze r s = (s.setTrace (.frozen ch ring), .ok .empty) := by
  simp [actTraceFreeze, ht, State.setTrace_eq_self ht]

theorem actTraceFreeze_of_off (ht : s.trace = .off) : actTraceFreeze r s = (s, .badState s.engine.operating) := by
  simp [actTraceFreeze, ht]

theorem actTraceUnfreeze_of_running (ht : s.trace = .running ch ring) :
    actTraceUnfreeze r s = (s.setTrace (.running ch []), .ok .empty) := by
  simp [actTraceUnfreeze, ht]

theorem actTraceUnfreeze_of_frozen (ht : s.trace = .frozen ch ring) :
    actTraceUnfreeze r s = (s.setTrace (.running ch []), .ok .empty) := by
  simp [actTraceUnfreeze, ht]

theorem actTraceUnfreeze_of_off (ht : s.trace = .off) : actTraceUnfreeze r s = (s, .badState s.engine.operating) := by
  simp [actTraceUnfreeze, ht]

end

/-- Settles O52: in each trace state the request's own part sets the trace alone, or nothing, and the step adds the Reply. -/
theorem freezeAndUnfreeze : Obligations.FreezeAndUnfreeze := by
  intro s r rest hi hl hload traced refused
  refine ⟨fun hserved => ?freeze, fun hserved => ?unfreeze⟩
  case freeze =>
    rw [exec_traceFreeze]
    refine ⟨fun ch ring ht => ?_, fun ch ring ht => ?_, fun ht => ?_⟩
    · exact serve_noLoad_setTrace hi hl hload hserved (actTraceFreeze_of_running ht)
    · exact serve_noLoad_setTrace hi hl hload hserved (actTraceFreeze_of_frozen ht)
    · exact serve_noLoad_same hi hl hload hserved (actTraceFreeze_of_off ht)
  case unfreeze =>
    rw [exec_traceUnfreeze]
    refine ⟨fun ch ring ht => ?_, fun ht => ?_⟩
    · rcases ht with ht | ht
      · exact serve_noLoad_setTrace hi hl hload hserved (actTraceUnfreeze_of_running ht)
      · exact serve_noLoad_setTrace hi hl hload hserved (actTraceUnfreeze_of_frozen ht)
    · exact serve_noLoad_same hi hl hload hserved (actTraceUnfreeze_of_off ht)

end Sys2Proof.Machine
end

section
/-! What the links do to the rest of the part. The transmitters, the queues, the pods, the flags and the lines change at every
command; the tables, the records, the moulds, the judgement and the management engine do not. Each operation of the links is
shown once to leave all of the latter alone, and to clear no flag. -/

namespace Sys2Proof.Machine

/-- `t` differs from `s` in the link ports, the queues of frames, the stall timing, the pods, the lines, and in flags that were
set: in nothing else. -/
structure LinksOnly (s t : State) : Prop where
  pending  : t.pending = s.pending
  engine   : t.engine = s.engine
  straps   : t.straps = s.straps
  tables   : t.tables = s.tables
  tracker  : t.tracker = s.tracker
  exam     : t.exam = s.exam
  moulds   : t.moulds = s.moulds
  monitor  : t.monitor = s.monitor
  suspects : t.suspects = s.suspects
  verdict  : t.verdict = s.verdict
  trace    : t.trace = s.trace
  flags    : ∀ c : Condition, c.isIn s.cond.flags = true → c.isIn t.cond.flags = true

namespace LinksOnly

theorem refl (s : State) : LinksOnly s s := ⟨rfl, rfl, rfl, rfl, rfl, rfl, rfl, rfl, rfl, rfl, rfl, fun _ h => h⟩

theorem trans {s t u : State} (h : LinksOnly s t) (g : LinksOnly t u) : LinksOnly s u :=
  ⟨g.pending.trans h.pending, g.engine.trans h.engine, g.straps.trans h.straps, g.tables.trans h.tables,
    g.tracker.trans h.tracker, g.exam.trans h.exam, g.moulds.trans h.moulds, g.monitor.trans h.monitor,
    g.suspects.trans h.suspects, g.verdict.trans h.verdict, g.trace.trans h.trace, fun c hc => g.flags c (h.flags c hc)⟩

end LinksOnly

namespace State

variable (s : State)

/-! ### Flags and lines -/

theorem raise_linksOnly (c : Condition) : LinksOnly s (s.raise c) :=
  ⟨rfl, rfl, rfl, rfl, rfl, rfl, rfl, rfl, rfl, rfl, rfl, fun d hd => (isIn_raise s c d).mpr (.inl hd)⟩

theorem raiseIf_linksOnly (b : Bool) (c : Condition) : LinksOnly s (s.raiseIf b c) := by
  cases b
  · exact .refl s
  · exact s.raise_linksOnly c

theorem driveLines_linksOnly : LinksOnly s s.driveLines := { LinksOnly.refl s with }

theorem causesArise_linksOnly (before : State) : LinksOnly s (causesArise before s) :=
  { LinksOnly.refl s with flags := fun c hc => (isIn_causesArise before s c).mpr (.inl hc) }

/-! ### Ports and pods -/

theorem setPort_linksOnly (p : Port) (x : LinkPort) : LinksOnly s (s.setPort p x) := by
  cases p <;> exact { LinksOnly.refl s with }

theorem setStall_linksOnly (x : Stall) : LinksOnly s (s.setStall x) := { LinksOnly.refl s with }

theorem mapPods_linksOnly (f : PodId → Pod → Pod) : LinksOnly s (s.mapPods f) := { LinksOnly.refl s with }

/-! ### Queues and transmitters -/

theorem setForward_linksOnly (q : List (List Byte)) : LinksOnly s (s.setForward q) := by
  rw [setForward_eq]
  exact { LinksOnly.refl s with }

theorem setUpward_linksOnly (q : List (List Byte)) : LinksOnly s (s.setUpward q) := { LinksOnly.refl s with }

theorem setOwn_linksOnly (q : List OwnFrame) : LinksOnly s (s.setOwn q) := { LinksOnly.refl s with }

theorem decideD_linksOnly : LinksOnly s s.decideD := by
  obtain ⟨_, _, _, _, _, _, h⟩ := s.decideD_frame
  rw [h]
  exact { LinksOnly.refl s with }

theorem startU_linksOnly : LinksOnly s s.startU := by
  obtain ⟨_, _, _, h⟩ := s.startU_frame
  rw [h]
  exact { LinksOnly.refl s with }

theorem resumeTx_linksOnly (p : Port) : LinksOnly s (s.resumeTx p) := by
  cases p
  · exact s.startU_linksOnly
  · exact s.decideD_linksOnly

theorem offerForward_linksOnly (b : List Byte) : LinksOnly s (s.offerForward b) := by
  unfold offerForward
  split
  · exact (setForward_linksOnly s _).trans (decideD_linksOnly _)
  · exact raise_linksOnly s _

theorem offerUpward_linksOnly (b : List Byte) : LinksOnly s (s.offerUpward b) := by
  unfold offerUpward
  split
  · exact (setUpward_linksOnly s _).trans (startU_linksOnly _)
  · exact raise_linksOnly s _

theorem placeOwn_linksOnly (f : OwnFrame) : LinksOnly s (s.placeOwn f) :=
  (setOwn_linksOnly s _).trans (decideD_linksOnly _)

theorem offerNonReply_linksOnly (f : OwnFrame) : LinksOnly s (s.offerNonReply f) := by
  unfold offerNonReply
  split
  · exact placeOwn_linksOnly s f
  · exact raise_linksOnly s _

theorem offerNotice_linksOnly (before : State) : LinksOnly s (offerNotice before s) := by
  unfold offerNotice
  split
  · exact offerNonReply_linksOnly s _
  · exact .refl s

/-- The end of a step moves the links and sets flags (R116, R123, R126). -/
theorem settle_linksOnly (before : State) : LinksOnly s (settle before s) :=
  ((causesArise_linksOnly s before).trans (offerNotice_linksOnly _ before)).trans (driveLines_linksOnly _)

theorem symbolBoundary_linksOnly : LinksOnly s s.symbolBoundary := { LinksOnly.refl s with }

/-! ### Receivers and timers -/

theorem setFraming_linksOnly (p : Port) (x : Framing) : LinksOnly s (s.setFraming p x) := setPort_linksOnly s p _

theorem symbolArrives_linksOnly (p : Port) : LinksOnly s (s.symbolArrives p) := setPort_linksOnly s p _

theorem receiveStart_linksOnly (p : Port) : LinksOnly s (s.receiveStart p) := by
  unfold receiveStart
  split
  · exact setFraming_linksOnly s p _
  · exact (raise_linksOnly s _).trans (setFraming_linksOnly _ p _)
  · exact setFraming_linksOnly s p _

theorem receiveData_linksOnly (p : Port) (b : Byte) : LinksOnly s (s.receiveData p b) := by
  unfold receiveData
  split
  · exact raise_linksOnly s _
  · split
    · exact setFraming_linksOnly s p _
    · exact (raise_linksOnly s _).trans (setFraming_linksOnly _ p _)
  · exact .refl s

theorem dataRun_linksOnly (p : Port) (data : List Byte) :
    LinksOnly s (data.foldl (fun u b => u.receiveData p b) s) := by
  induction data generalizing s with
  | nil => exact .refl s
  | cons b bs ih => exact (receiveData_linksOnly s p b).trans (ih _)

theorem breakFrame_linksOnly (p : Port) : LinksOnly s (s.breakFrame p) := by
  unfold breakFrame
  split
  · exact setFraming_linksOnly s p _
  · exact (raise_linksOnly s _).trans (setFraming_linksOnly _ p _)
  · exact setFraming_linksOnly s p _

theorem hold_linksOnly (p : Port) : LinksOnly s (s.hold p) := by
  unfold hold
  split
  · exact .refl s
  · cases p
    · exact setPort_linksOnly s .u _
    · exact (setPort_linksOnly s .d _).trans (setStall_linksOnly _ _)

theorem release_linksOnly (p : Port) : LinksOnly s (s.release p) := by
  unfold release
  split
  · exact .refl s
  · cases p
    · exact (setPort_linksOnly s .u _).trans (startU_linksOnly _)
    · exact ((setPort_linksOnly s .d _).trans (setStall_linksOnly _ _)).trans (decideD_linksOnly _)

theorem loseSignal_linksOnly (p : Port) : LinksOnly s (s.loseSignal p) :=
  ((setPort_linksOnly s p _).trans (release_linksOnly _ p)).trans (raise_linksOnly _ _)

theorem endFrame_linksOnly (p : Port) : LinksOnly s (s.endFrame p) :=
  (setPort_linksOnly s p _).trans (resumeTx_linksOnly _ p)

theorem stallExpires_linksOnly : LinksOnly s s.stallExpires :=
  (setStall_linksOnly s _).trans (raise_linksOnly _ _)

theorem podHears_linksOnly (f : Frame) : LinksOnly s (s.podHears f) := by
  unfold podHears speaksFor
  split
  · split
    · exact mapPods_linksOnly s _
    · exact .refl s
  · exact .refl s

end State

end Sys2Proof.Machine
end

section
/-! What a command can do. One inversion for the requests' own parts, one for the commands: every law that the steps keep is
shown from these cases. -/

namespace Sys2Proof.Machine

namespace State

theorem watching_eq_true {s : State} : s.watching = true ↔ s.engine.operating = .watching := by
  simp [watching]

theorem watching_eq_false {s : State} : s.watching = false ↔ s.engine.operating = .halted := by
  unfold watching
  cases s.engine.operating <;> simp

end State

/-! ### The rows of requests -/

/-- The rows of the requests, each with what check 2 and check 3 let pass for it and its own part (R167). -/
inductive RequestRow : Instr → Permission → Act → Prop where
  | identify : RequestRow .identify .always actIdentify
  | readStatus : RequestRow .readStatus .always actReadStatus
  | restart : RequestRow .restart .always actRestart
  | halt : RequestRow .halt .always actHalt
  | start : RequestRow .start .always actStart
  | loadSetup : RequestRow .loadSetup .haltedOnly actLoadSetup
  | loadBandSets : RequestRow .loadBandSets .haltedOnly actLoadBandSets
  | loadChannels : RequestRow .loadChannels .haltedOnly actLoadChannels
  | loadMould : RequestRow .loadMould .noLoad actLoadMould
  | loadContinue : RequestRow .loadContinue .withLoad actLoadContinue
  | loadAbort : RequestRow .loadAbort .withLoad actLoadAbort
  | readMould : RequestRow .readMould .noLoad actReadMould
  | confirmMould : RequestRow .confirmMould .noLoad actConfirmMould
  | readSuspects : RequestRow .readSuspects .noLoad actReadSuspects
  | releaseSuspect : RequestRow .releaseSuspect .noLoad actReleaseSuspect
  | readCycle : RequestRow .readCycle .noLoad actReadCycle
  | clearConditions : RequestRow .clearConditions .noLoad actClearConditions
  | setEnables : RequestRow .setEnables .noLoad actSetEnables
  | traceSelect : RequestRow .traceSelect .noLoad actTraceSelect
  | traceFreeze : RequestRow .traceFreeze .noLoad actTraceFreeze
  | traceUnfreeze : RequestRow .traceUnfreeze .noLoad actTraceUnfreeze
  | traceRead : RequestRow .traceRead .noLoad actTraceRead
  | traceOff : RequestRow .traceOff .noLoad actTraceOff
  | unknownRequest : RequestRow .unknownRequest .always actUnknown

theorem RequestRow.exec_eq {row : Instr} {perm : Permission} {act : Act} (h : RequestRow row perm act) (s : State) :
    exec row s = serve row perm act s := by
  cases h <;> rfl

/-! ### Open loads -/

/-- A load's staging area and remaining count make up its declared count within the kind's bounds; a CHANNELS load belongs to
HALTED (R177, R178, R183). The remaining count may be 0, as it is when the load commits. -/
def LoadOk (operating : OpState) (l : OpenLoad) : Prop :=
  match l.staging with
  | .channels records => operating = .halted ∧ records.length + l.remaining = l.declared ∧ l.declared ≤ 32
  | .mould _ header profiles =>
    profiles.length + l.remaining = l.declared ∧ l.declared = header.w ∧ header.w ≤ 24 ∧ ∀ p ∈ profiles, p.ringHi ≤ 255

theorem loadLaw_iff (s : State) :
    LoadLaw s ↔ ∀ l, s.engine.load = some l → 1 ≤ l.remaining ∧ LoadOk s.engine.operating l := by
  unfold LoadLaw
  cases s.engine.load with
  | none => exact ⟨nofun, fun _ => trivial⟩
  | some l => exact ⟨fun h _ he => Option.some.inj he ▸ h, fun h => h l rfl⟩

@[simp] theorem length_rawChannelsAt (b : List Byte) (off n : Nat) : (rawChannelsAt b off n).length = n := by
  simp [rawChannelsAt]

@[simp] theorem length_rawProfilesAt (b : List Byte) (off n : Nat) : (rawProfilesAt b off n).length = n := by
  simp [rawProfilesAt]

theorem byteAt_le (b : List Byte) (i : Nat) : byteAt b i ≤ 255 := by
  have := (b.getD i 0).isLt
  unfold byteAt
  omega

theorem ringHi_le_of_mem_rawProfilesAt {b : List Byte} {off n : Nat} {p : RawProfile} (h : p ∈ rawProfilesAt b off n) :
    p.ringHi ≤ 255 := by
  simp only [rawProfilesAt, List.mem_map] at h
  obtain ⟨i, -, rfl⟩ := h
  exact byteAt_le b _

/-- A Load Continue that fits keeps the load well formed (R179). -/
theorem LoadOk.extend {op : OpState} {l : OpenLoad} (h : LoadOk op l) (body : List Byte) {given : Nat}
    (hg : given ≤ l.remaining) (timer : Nat) :
    LoadOk op ⟨l.staging.extend body given, l.declared, l.remaining - given, timer⟩ := by
  obtain ⟨staging, declared, remaining, _⟩ := l
  cases staging with
  | channels records =>
    obtain ⟨hop, hlen, hmax⟩ := h
    exact ⟨hop, by simp at hg hlen ⊢; omega, hmax⟩
  | mould slot header profiles =>
    obtain ⟨hlen, hw, hmax, hring⟩ := h
    refine ⟨by simp at hg hlen ⊢; omega, hw, hmax, fun p hp => ?_⟩
    rcases List.mem_append.mp hp with hp | hp
    · exact hring p hp
    · exact ringHi_le_of_mem_rawProfilesAt hp

/-! ### The requests' own parts -/

/-- The states that a request's own part can leave (R167 and the requests' rules). -/
inductive Asked (s : State) : State → Prop where
  | same : Asked s s
  | started (hw : s.watching = false) (hl : s.engine.load = none) (hf : s.startFault = none) : Asked s s.enterWatching
  | halted (hw : s.watching = true) : Asked s s.enterHalted
  | restarted : Asked s s.restarted
  | setup (su : Setup) (hw : s.watching = false) : Asked s (s.setSetup su)
  | bandSets (pairs : List BandPair) : Asked s (s.replaceBandSets pairs)
  | noChannels (hw : s.watching = false) : Asked s (s.replaceChannels [])
  | proceeded (l : OpenLoad) (hl : LoadLaw s → LoadOk s.engine.operating l) : Asked s (proceedLoad l s).1
  | aborted : Asked s (s.setLoad none)
  | confirmed (code : Fin 16) (m : MouldRecord) (hclamp : s.monitor.clamp.debounced = some true)
      (hcode : s.monitor.code.debounced = some code) (hm : s.mould code = some m) :
      Asked s (s.setMouldState (.confirmed ⟨code, true⟩))
  | released (slot : Fin 16) (wp : Fin 24) : Asked s (s.releaseEntry slot wp)
  | relearned (slot : Fin 16) (wp : Fin 24) (m : MouldRecord) (hc : s.carried slot = false) (hm : s.mould slot = some m) :
      Asked s ((s.releaseEntry slot wp).setMould slot (m.relearn wp))
  | cleared (flags : CondSet)
      (hf : ∀ c : Condition, c.isIn s.cond.flags = true → s.causeHolds c = true → c.isIn flags = true) :
      Asked s (s.setCond { s.cond with flags := flags })
  | enabled (x : CondSet) : Asked s (s.setCond { s.cond with enables := x })
  | selected (i : Nat) (hi : i < s.tables.channels.length) : Asked s (s.setTrace (.running i []))
  | frozen (ch : Nat) (ring : List Copy) (ht : s.trace = .running ch ring) : Asked s (s.setTrace (.frozen ch ring))
  | unfrozen (ch : Nat) (ring : List Copy) (ht : s.trace = .running ch ring ∨ s.trace = .frozen ch ring) :
      Asked s (s.setTrace (.running ch []))
  | untraced : Asked s s.traceStops

namespace Asked

variable {s : State} {r : Request}

theorem start : Asked s (actStart r s).1 := by
  unfold actStart
  split
  · exact same
  case h_2 hl =>
    split
    · exact same
    case isFalse hw =>
      split
      · exact same
      case h_2 hf => exact started (by simpa using hw) hl hf

theorem halt : Asked s (actHalt r s).1 := by
  unfold actHalt
  split
  case isTrue hw => exact halted hw
  case isFalse => exact same

theorem loadSetup (hw : s.watching = false) : Asked s (actLoadSetup r s).1 := by
  unfold actLoadSetup
  split
  · exact same
  · exact setup _ hw

theorem loadBandSets : Asked s (actLoadBandSets r s).1 := by
  unfold actLoadBandSets
  split
  · split
    · exact same
    · exact bandSets _
  · exact same

theorem loadChannels (hw : s.watching = false) : Asked s (actLoadChannels r s).1 := by
  unfold actLoadChannels
  simp only
  split
  · exact same
  case isFalse hfit =>
    split
    · exact noChannels hw
    · refine proceeded _ fun _ => ⟨State.watching_eq_false.mp hw, ?_, ?_⟩
      · simp only [length_rawChannelsAt]
        omega
      · simp only
        omega

theorem loadMould : Asked s (actLoadMould r s).1 := by
  unfold actLoadMould
  simp only
  split
  · split
    · exact same
    case isFalse hfit =>
      split
      · exact same
      · simp only [Bool.or_eq_true, Bool.not_eq_true', decide_eq_true_eq, not_or, Bool.not_eq_false, inRange,
          Bool.and_eq_true] at hfit
        refine proceeded _ fun _ => ⟨?_, rfl, hfit.1.1.2, fun p hp => ringHi_le_of_mem_rawProfilesAt hp⟩
        simp only [length_rawProfilesAt]
        omega
  · exact same

theorem loadContinue : Asked s (actLoadContinue r s).1 := by
  unfold actLoadContinue
  split
  · exact same
  case h_2 l hl =>
    simp only
    split
    · exact same
    case isFalse hfit =>
      refine proceeded _ fun hlaw => ?_
      obtain ⟨-, hok⟩ := (loadLaw_iff s).mp hlaw l hl
      exact hok.extend r.body (by omega) _

theorem readMould : Asked s (actReadMould r s).1 := by
  unfold actReadMould
  simp only
  split
  · split
    · exact same
    · split <;> exact same
  · exact same

theorem confirmMould : Asked s (actConfirmMould r s).1 := by
  unfold actConfirmMould
  simp only
  split
  · split
    · exact same
    case isFalse hclamp =>
      split
      · exact same
      case isFalse hcode =>
        split
        · exact same
        case h_2 m hm =>
          split
          · exact same
          · exact confirmed _ m (not_not.mp hclamp) (not_not.mp hcode) hm
  · exact same

theorem readSuspects : Asked s (actReadSuspects r s).1 := by
  unfold actReadSuspects
  simp only
  split <;> exact same

theorem release {slot : Fin 16} {wp : Fin 24} {relearn : Bool} : Asked s (releaseChecked s slot wp relearn).1 := by
  unfold releaseChecked
  split
  · exact same
  · split
    · exact same
    case isFalse hc =>
      cases relearn with
      | false => exact released slot wp
      | true =>
        simp only [if_true, State.relearn]
        split
        case h_1 m hm =>
          split
          · exact relearned slot wp m (by simpa using hc) hm
          · exact released slot wp
        · exact released slot wp

theorem releaseSuspect : Asked s (actReleaseSuspect r s).1 := by
  unfold actReleaseSuspect
  split
  · exact release
  · exact same

theorem readCycle : Asked s (actReadCycle r s).1 := by
  unfold actReadCycle
  simp only
  split
  · exact same
  · split <;> exact same

theorem clearConditions : Asked s (actClearConditions r s).1 := by
  unfold actClearConditions
  simp only
  split
  · exact same
  · refine cleared _ fun c hc hcause => ?_
    simp [Condition.isIn_and, Condition.isIn_not, State.isIn_standing, hc, hcause]

theorem setEnables : Asked s (actSetEnables r s).1 := by
  unfold actSetEnables
  split
  · exact same
  · exact enabled _

theorem traceSelect : Asked s (actTraceSelect r s).1 := by
  unfold actTraceSelect
  simp only
  split
  · exact same
  · split
    · exact same
    case isFalse hi => exact selected _ (by omega)

theorem traceFreeze : Asked s (actTraceFreeze r s).1 := by
  unfold actTraceFreeze
  split
  case h_1 ht => exact frozen _ _ ht
  · exact same
  · exact same

theorem traceUnfreeze : Asked s (actTraceUnfreeze r s).1 := by
  unfold actTraceUnfreeze
  split
  case h_1 ht => exact unfrozen _ _ (.inl ht)
  case h_2 ht => exact unfrozen _ _ (.inr ht)
  · exact same

theorem traceRead : Asked s (actTraceRead r s).1 := by
  unfold actTraceRead
  simp only
  split
  · exact same
  · split
    · split <;> exact same
    · exact same
    · exact same

end Asked

/-- What a permission of HALTED lets pass was asked in HALTED (R165 check 3). -/
theorem gate_haltedOnly {s : State} (h : gate .haltedOnly s = none) : s.watching = false := by
  unfold gate at h
  cases hl : s.engine.load <;> simp_all

/-- A request's answer leaves the state as it was, or as its own part leaves it. -/
theorem RequestRow.asked {row : Instr} {perm : Permission} {act : Act} (h : RequestRow row perm act) (r : Request)
    (s : State) : Asked s (answered perm act r s).1 := by
  unfold answered
  split
  · exact .same
  case h_2 hgate =>
    cases h with
    | identify | readStatus | unknownRequest => exact .same
    | restart => exact .restarted
    | halt => exact .halt
    | start => exact .start
    | loadSetup => exact .loadSetup (gate_haltedOnly hgate)
    | loadBandSets => exact .loadBandSets
    | loadChannels => exact .loadChannels (gate_haltedOnly hgate)
    | loadMould => exact .loadMould
    | loadContinue => exact .loadContinue
    | loadAbort => exact .aborted
    | readMould => exact .readMould
    | confirmMould => exact .confirmMould
    | readSuspects => exact .readSuspects
    | releaseSuspect => exact .releaseSuspect
    | readCycle => exact .readCycle
    | clearConditions => exact .clearConditions
    | setEnables => exact .setEnables
    | traceSelect => exact .traceSelect
    | traceFreeze => exact .traceFreeze
    | traceUnfreeze => exact .traceUnfreeze
    | traceRead => exact .traceRead
    | traceOff => exact .untraced

/-! ### The commands -/

/-- The states that a command's own effect can leave, before the end of the step. -/
inductive Effect (s : State) : State → Prop where
  | reset (cause : ResetCause) (pins : Pins) : Effect s (s.resetBy cause pins)
  | startSymbol (p : Port) : Effect s ((s.symbolArrives p).receiveStart p)
  | frame (p : Port) (data : List Byte) :
      Effect s ((data.foldl (fun u b => u.receiveData p b) (s.symbolArrives p)).receiveEnd p)
  | dataSymbol (p : Port) (b : Byte) : Effect s ((s.symbolArrives p).receiveData p b)
  | overlength (p : Port) (h : ∃ bytes, ((s.symbolArrives p).port p).framing = .inFrame bytes) :
      Effect s (((s.symbolArrives p).raise .linkFault).setFraming p .discarding)
  | strayByte (p : Port) : Effect s ((s.symbolArrives p).raise .linkFault)
  | symbol (p : Port) : Effect s (s.symbolArrives p)
  | violation (p : Port) : Effect s (s.breakFrame p)
  | hold (p : Port) : Effect s ((s.symbolArrives p).hold p)
  | go (p : Port) : Effect s ((s.symbolArrives p).release p)
  | idle (p : Port) : Effect s (((s.symbolArrives p).breakFrame p).release p)
  | lost (p : Port) : Effect s (s.loseSignal p)
  | sentFrame (p : Port) : Effect s (s.endFrame p)
  | stall (h : s.stall.timer.isSome = true) : Effect s s.stallExpires
  | silence (p : PodId) (h : s.silenceTimed p = true) : Effect s (s.silenceExpires p)
  | cycle (i : RecId) (h : (s.tracker.get i).isOpen = true) : Effect s (s.cycleExpires i)
  | grace (i : RecId) (h : s.graceMayExpire i = true) : Effect s (s.graceExpires i)
  | judged (j : Judging) (h : s.verdict.judging = some j) : Effect s (s.completeJudgement j)
  | examined (c : Copy) (rest : List Copy) (h : s.exam = c :: rest) : Effect s (s.examine c rest)
  | rawChange (x : RawInput) (h : s.rawDiffers x = true) : Effect s (s.rawChanges x)
  | debounced (x : Input) (h : s.debouncing x = true) : Effect s (s.debounceExpires x)
  | loadTimer : Effect s ((s.setLoad none).raise .loadTimeout)
  | request (r : Request) (rest : List Request) (t : State) (a : Answer) (hi : s.engine.inbox = r :: rest)
      (hr : s.roomForReply = true) (ht : Asked (s.popped rest) t) : Effect s (t.reply r a)

/-- A command answers the state it found, or the end of a step over one of its effects. -/
def Answers (s : State) (x : Host.Outcome State Fault Refusal) : Prop :=
  x = .next s ∨ ∃ u, Effect s u ∧ x = .next (State.settle s u)

theorem Effect.answers {s u : State} (h : Effect s u) : Answers s (.next (State.settle s u)) := .inr ⟨u, h, rfl⟩

theorem answers_same (s : State) : Answers s (.next s) := .inl rfl

/-- A request's row, on its turn or not (R164). -/
theorem RequestRow.answers {row : Instr} {perm : Permission} {act : Act} (h : RequestRow row perm act) (s : State) :
    Answers s (exec row s) := by
  rw [h.exec_eq]
  unfold serve
  split
  case h_1 r rest hi =>
    split
    case isTrue hexec =>
      have hroom : s.roomForReply = true := by
        simp only [State.executes, Bool.and_eq_true] at hexec
        exact hexec.2
      exact .inr ⟨_, .request r rest _ _ hi hroom (h.asked r (s.popped rest)), rfl⟩
    · exact answers_same s
  · exact answers_same s

/-- Everything a command can do. -/
theorem exec_answers (c : Instr) (s : State) : Answers s (exec c s) := by
  cases c with
  | powerOnReset pins => exact (Effect.reset _ pins).answers
  | lineReset pins => exact (Effect.reset _ pins).answers
  | frameReceived p data => exact (Effect.frame p data).answers
  | frameOverlength p =>
    show Answers s (execFrameOverlength p s)
    unfold execFrameOverlength stepped
    simp only
    split
    · exact (Effect.strayByte p).answers
    case h_2 bytes hb => exact (Effect.overlength p ⟨bytes, hb⟩).answers
    · exact (Effect.symbol p).answers
  | earlyStart p => exact (Effect.startSymbol p).answers
  | straySymbol p x =>
    cases x with
    | data b => exact (Effect.dataSymbol p b).answers
    | frameEnd => exact (Effect.frame p []).answers
  | codeViolation p => exact (Effect.violation p).answers
  | holdReceived p => exact (Effect.hold p).answers
  | goReceived p => exact (Effect.go p).answers
  | idleReceived p => exact (Effect.idle p).answers
  | signalLost p =>
    show Answers s (execSignalLost p s)
    unfold execSignalLost
    split
    · exact (Effect.lost p).answers
    · exact answers_same s
  | portDFrameEnd =>
    show Answers s (execPortDFrameEnd s)
    unfold execPortDFrameEnd
    split
    · exact (Effect.sentFrame .d).answers
    · exact answers_same s
  | portUFrameEnd =>
    show Answers s (execPortUFrameEnd s)
    unfold execPortUFrameEnd
    split
    · exact (Effect.sentFrame .u).answers
    · exact answers_same s
  | stallTimerExpiry =>
    show Answers s (execStallTimerExpiry s)
    unfold execStallTimerExpiry
    split
    case isTrue h => exact (Effect.stall h).answers
    · exact answers_same s
  | silenceTimerExpiry p =>
    show Answers s (execSilenceTimerExpiry p s)
    unfold execSilenceTimerExpiry
    split
    case isTrue h => exact (Effect.silence p h).answers
    · exact answers_same s
  | cycleTimerExpiry i =>
    show Answers s (execCycleTimerExpiry i s)
    unfold execCycleTimerExpiry
    split
    case isTrue h =>
      obtain ⟨hopen, -⟩ := Bool.and_eq_true_iff.mp h
      exact (Effect.cycle i hopen).answers
    · exact answers_same s
  | graceExpiry i =>
    show Answers s (execGraceExpiry i s)
    unfold execGraceExpiry
    split
    case isTrue h => exact (Effect.grace i h).answers
    · exact answers_same s
  | judgementCompletion =>
    show Answers s (execJudgementCompletion s)
    unfold execJudgementCompletion
    split
    case h_1 j h => exact (Effect.judged j h).answers
    · exact answers_same s
  | examineBlock =>
    show Answers s (execExamineBlock s)
    unfold execExamineBlock
    split
    case h_1 c rest h => exact (Effect.examined c rest h).answers
    · exact answers_same s
  | rawValueChange x =>
    show Answers s (execRawValueChange x s)
    unfold execRawValueChange
    split
    case isTrue h => exact (Effect.rawChange x h).answers
    · exact answers_same s
  | debounceTimerExpiry x =>
    show Answers s (execDebounceTimerExpiry x s)
    unfold execDebounceTimerExpiry
    split
    case isTrue h => exact (Effect.debounced x h).answers
    · exact answers_same s
  | loadTimerExpiry =>
    show Answers s (execLoadTimerExpiry s)
    unfold execLoadTimerExpiry
    split
    · exact Effect.loadTimer.answers
    · exact answers_same s
  | identify => exact RequestRow.identify.answers s
  | readStatus => exact RequestRow.readStatus.answers s
  | restart => exact RequestRow.restart.answers s
  | halt => exact RequestRow.halt.answers s
  | start => exact RequestRow.start.answers s
  | loadSetup => exact RequestRow.loadSetup.answers s
  | loadBandSets => exact RequestRow.loadBandSets.answers s
  | loadChannels => exact RequestRow.loadChannels.answers s
  | loadMould => exact RequestRow.loadMould.answers s
  | loadContinue => exact RequestRow.loadContinue.answers s
  | loadAbort => exact RequestRow.loadAbort.answers s
  | readMould => exact RequestRow.readMould.answers s
  | confirmMould => exact RequestRow.confirmMould.answers s
  | readSuspects => exact RequestRow.readSuspects.answers s
  | releaseSuspect => exact RequestRow.releaseSuspect.answers s
  | readCycle => exact RequestRow.readCycle.answers s
  | clearConditions => exact RequestRow.clearConditions.answers s
  | setEnables => exact RequestRow.setEnables.answers s
  | traceSelect => exact RequestRow.traceSelect.answers s
  | traceFreeze => exact RequestRow.traceFreeze.answers s
  | traceUnfreeze => exact RequestRow.traceUnfreeze.answers s
  | traceRead => exact RequestRow.traceRead.answers s
  | traceOff => exact RequestRow.traceOff.answers s
  | unknownRequest => exact RequestRow.unknownRequest.answers s
  | frameStart p => exact (Effect.startSymbol p).answers

/-- Everything a step can do: a symbol boundary, a command that does not occur, or an effect and the end of the step. -/
theorem step_cases {s t : State} (h : step s = .next t) :
    t = s.symbolBoundary ∨ ∃ rest, t = s.setPending rest ∨
      ∃ u, Effect (s.setPending rest) u ∧ t = State.settle (s.setPending rest) u := by
  unfold step at h
  split at h
  · exact .inl (Host.Outcome.next.inj h).symm
  case h_2 c rest _ =>
    rcases exec_answers c (s.setPending rest) with hsame | ⟨u, hu, heff⟩
    · exact .inr ⟨rest, .inl (Host.Outcome.next.inj (hsame.symm.trans h)).symm⟩
    · exact .inr ⟨rest, .inr ⟨u, hu, (Host.Outcome.next.inj (heff.symm.trans h)).symm⟩⟩

end Sys2Proof.Machine
end

section
/-! What the tracker, the mould monitor, the feature engine, the judgement and the tables do to the links: nothing but set flags.
Each of their operations is shown once to leave the ports, the queues of frames, the pods and the lines alone. -/

namespace Sys2Proof.Machine

/-- `t` differs from `s` in the tables, the records, the moulds, the judgement, the engine, the trace, and in flags that were
set: in nothing of the links. -/
structure CoreOnly (s t : State) : Prop where
  pending : t.pending = s.pending
  lines   : t.lines = s.lines
  portU   : t.portU = s.portU
  portD   : t.portD = s.portD
  stall   : t.stall = s.stall
  pods    : t.pods = s.pods
  paths   : t.paths = s.paths
  flags   : ∀ c : Condition, c.isIn s.cond.flags = true → c.isIn t.cond.flags = true

namespace CoreOnly

theorem refl (s : State) : CoreOnly s s := ⟨rfl, rfl, rfl, rfl, rfl, rfl, rfl, fun _ h => h⟩

theorem trans {s t u : State} (h : CoreOnly s t) (g : CoreOnly t u) : CoreOnly s u :=
  ⟨g.pending.trans h.pending, g.lines.trans h.lines, g.portU.trans h.portU, g.portD.trans h.portD, g.stall.trans h.stall,
    g.pods.trans h.pods, g.paths.trans h.paths, fun c hc => g.flags c (h.flags c hc)⟩

end CoreOnly

/-- `t` differs from `s` in the records, the mould monitor, the verdict unit, and in flags that were set: in nothing else. -/
structure CycleOnly (s t : State) : Prop extends CoreOnly s t where
  engine   : t.engine = s.engine
  straps   : t.straps = s.straps
  tables   : t.tables = s.tables
  exam     : t.exam = s.exam
  moulds   : t.moulds = s.moulds
  suspects : t.suspects = s.suspects
  trace    : t.trace = s.trace

namespace CycleOnly

theorem refl (s : State) : CycleOnly s s := { CoreOnly.refl s with
  engine := rfl, straps := rfl, tables := rfl, exam := rfl, moulds := rfl, suspects := rfl, trace := rfl }

theorem trans {s t u : State} (h : CycleOnly s t) (g : CycleOnly t u) : CycleOnly s u :=
  { h.toCoreOnly.trans g.toCoreOnly with
    engine := g.engine.trans h.engine
    straps := g.straps.trans h.straps
    tables := g.tables.trans h.tables
    exam := g.exam.trans h.exam
    moulds := g.moulds.trans h.moulds
    suspects := g.suspects.trans h.suspects
    trace := g.trace.trans h.trace }

end CycleOnly

namespace State

variable (s : State)

theorem raise_coreOnly (c : Condition) : CoreOnly s (s.raise c) :=
  { CoreOnly.refl s with flags := (raise_linksOnly s c).flags }

theorem raiseIf_coreOnly (b : Bool) (c : Condition) : CoreOnly s (s.raiseIf b c) := by
  cases b
  · exact .refl s
  · exact s.raise_coreOnly c

theorem setEngine_coreOnly (x : Engine) : CoreOnly s (s.setEngine x) := { CoreOnly.refl s with }

theorem setTables_coreOnly (x : Tables) : CoreOnly s (s.setTables x) := { CoreOnly.refl s with }

theorem setExam_coreOnly (x : List Copy) : CoreOnly s (s.setExam x) := { CoreOnly.refl s with }

theorem setMoulds_coreOnly (x : Vector (Option MouldRecord) 16) : CoreOnly s (s.setMoulds x) := { CoreOnly.refl s with }

theorem setMonitor_coreOnly (x : Monitor) : CoreOnly s (s.setMonitor x) := { CoreOnly.refl s with }

theorem setSuspects_coreOnly (x : List SuspectEntry) : CoreOnly s (s.setSuspects x) := { CoreOnly.refl s with }

theorem setTrace_coreOnly (x : Trace) : CoreOnly s (s.setTrace x) := { CoreOnly.refl s with }

/-! ### The tracker -/

theorem raise_cycleOnly (c : Condition) : CycleOnly s (s.raise c) :=
  { CycleOnly.refl s with flags := (raise_linksOnly s c).flags }

theorem raiseIf_cycleOnly (b : Bool) (c : Condition) : CycleOnly s (s.raiseIf b c) := by
  cases b
  · exact .refl s
  · exact s.raise_cycleOnly c

theorem setTracker_cycleOnly (x : Tracker) : CycleOnly s (s.setTracker x) := { CycleOnly.refl s with }

theorem setMonitor_cycleOnly (x : Monitor) : CycleOnly s (s.setMonitor x) := { CycleOnly.refl s with }

theorem setVerdict_cycleOnly (x : VerdictUnit) : CycleOnly s (s.setVerdict x) := { CycleOnly.refl s with }

theorem setRec_cycleOnly (i : RecId) (r : CycleRecord) : CycleOnly s (s.setRec i r) := setTracker_cycleOnly s _

theorem abandon_cycleOnly (i : RecId) : CycleOnly s (s.abandon i) := setRec_cycleOnly s i _

theorem startJudgement_cycleOnly (i : RecId) : CycleOnly s (s.startJudgement i) :=
  (setRec_cycleOnly s i _).trans (setVerdict_cycleOnly _ _)

theorem graceExpires_cycleOnly (i : RecId) : CycleOnly s (s.graceExpires i) := by
  unfold graceExpires
  simp only
  split
  · exact setRec_cycleOnly s i _
  · split
    · exact setRec_cycleOnly s i _
    · exact startJudgement_cycleOnly s i

theorem closeRec_cycleOnly (i : RecId) : CycleOnly s (s.closeRec i) := by
  unfold closeRec
  simp only
  split
  · exact ((setRec_cycleOnly s i _).trans (setTracker_cycleOnly _ _)).trans (graceExpires_cycleOnly _ i)
  · exact (setRec_cycleOnly s i _).trans (setTracker_cycleOnly _ _)

theorem illegalMark_cycleOnly (i : RecId) : CycleOnly s (s.illegalMark i) :=
  (abandon_cycleOnly s i).trans (raise_cycleOnly _ _)

theorem takeMatched_cycleOnly (kind : MarkKind) (i : RecId) (phase : Phase) : CycleOnly s (s.takeMatched kind i phase) := by
  unfold takeMatched
  split
  · exact abandon_cycleOnly s i
  · split
    · exact closeRec_cycleOnly s i
    · exact illegalMark_cycleOnly s i
  · split
    · exact setRec_cycleOnly s i _
    · exact illegalMark_cycleOnly s i

theorem abandonOpen_cycleOnly : CycleOnly s s.abandonOpen := by
  unfold abandonOpen
  split
  · exact (abandon_cycleOnly s _).trans (raise_cycleOnly _ _)
  · exact .refl s

theorem autoConfirm_cycleOnly : CycleOnly s s.autoConfirm := by
  obtain ⟨m, h, -, -⟩ := s.autoConfirm_spec
  rw [h]
  exact setMonitor_cycleOnly s m

theorem placeCycle_cycleOnly (number : Half) : CycleOnly s (s.placeCycle number) := by
  unfold placeCycle
  split
  · exact (setRec_cycleOnly s _ _).trans (setTracker_cycleOnly _ _)
  · exact (setTracker_cycleOnly s _).trans (raise_cycleOnly _ _)

theorem takeOpening_cycleOnly (number : Half) : CycleOnly s (s.takeOpening number) :=
  (((abandonOpen_cycleOnly s).trans (autoConfirm_cycleOnly _)).trans (placeCycle_cycleOnly _ number)).trans
    (setTracker_cycleOnly _ _)

/-- Taking a Mark leaves all but the records, the mould state, the verdict unit and flags alone (R1, R4). -/
theorem takeMark_cycleOnly (kind : MarkKind) (number : Half) : CycleOnly s (s.takeMark kind number) := by
  unfold takeMark
  split
  · exact takeOpening_cycleOnly s number
  · split
    · exact takeMatched_cycleOnly s kind _ _
    · exact raiseIf_cycleOnly s _ _

theorem showMark_cycleOnly (f : Frame) : CycleOnly s (s.showMark f) := by
  unfold showMark
  split
  · exact takeMark_cycleOnly s _ _
  · exact .refl s

theorem cycleExpires_cycleOnly (i : RecId) : CycleOnly s (s.cycleExpires i) :=
  (abandon_cycleOnly s i).trans (raise_cycleOnly _ _)

theorem joinSilenced_cycleOnly (p : PodId) : CycleOnly s (s.joinSilenced p) := by
  unfold joinSilenced
  split
  · exact .refl s
  · simp only
    split
    · split
      · exact setRec_cycleOnly s _ _
      · exact .refl s
    · exact .refl s

/-! ### The mould monitor and the feature engine -/

theorem abandonMoulded_cycleOnly : CycleOnly s s.abandonMoulded := by
  unfold abandonMoulded
  split
  · split
    · exact abandon_cycleOnly s _
    · exact .refl s
  · exact .refl s

theorem departConfirmed_cycleOnly (after : MouldState) : CycleOnly s (s.departConfirmed after) :=
  ((setMonitor_cycleOnly s _).trans (abandonMoulded_cycleOnly _)).trans (raise_cycleOnly _ _)

theorem mouldFollows_cycleOnly (x : Input) : CycleOnly s (s.mouldFollows x) := by
  unfold mouldFollows
  simp only
  split
  · split
    · exact setMonitor_cycleOnly s _
    · exact .refl s
  · split
    · exact .refl s
    · exact setMonitor_cycleOnly s _
  · split
    · exact departConfirmed_cycleOnly s _
    · split
      · exact .refl s
      · exact departConfirmed_cycleOnly s _

theorem rawChanges_cycleOnly (x : RawInput) : CycleOnly s (s.rawChanges x) := by
  cases x <;> exact setMonitor_cycleOnly s _

theorem debounceExpires_cycleOnly (x : Input) : CycleOnly s (s.debounceExpires x) := by
  cases x with
  | code => exact (setMonitor_cycleOnly s _).trans (mouldFollows_cycleOnly (s.setCode s.monitor.code.expire) .code)
  | clamp => exact (setMonitor_cycleOnly s _).trans (mouldFollows_cycleOnly (s.setClamp s.monitor.clamp.expire) .clamp)

theorem applyBlock_cycleOnly (c : Copy) : CycleOnly s (s.applyBlock c) := by
  unfold applyBlock
  split
  · exact setRec_cycleOnly s _ _
  · exact .refl s

theorem examine_coreOnly (c : Copy) (rest : List Copy) : CoreOnly s (s.examine c rest) :=
  ((setExam_coreOnly s _).trans (setTrace_coreOnly _ _)).trans (applyBlock_cycleOnly _ c).toCoreOnly

theorem offerCopy_coreOnly (f : Frame) : CoreOnly s (s.offerCopy f) := by
  unfold offerCopy
  split
  · split
    · exact setExam_coreOnly s _
    · exact raise_coreOnly s _
  · exact .refl s

theorem offerInbox_coreOnly (r : Request) : CoreOnly s (s.offerInbox r) := by
  unfold offerInbox
  split
  · exact setEngine_coreOnly s _
  · exact raise_coreOnly s _

theorem routeOwn_coreOnly (f : Frame) : CoreOnly s (s.routeOwn f) := by
  unfold routeOwn
  split
  · exact offerInbox_coreOnly s _
  · exact raise_coreOnly s _

/-! ### The judgement -/

theorem applyToSlot_coreOnly (list : List SuspectEntry) (slot : Fin 16) (xs : List SummaryEntry) :
    CoreOnly s (s.applyToSlot list slot xs) := by
  unfold applyToSlot
  split
  · exact setMoulds_coreOnly s _
  · exact .refl s

theorem applyTrigger_coreOnly (u : ListRun) (xs : List SummaryEntry) : CoreOnly s (s.applyTrigger u xs) := by
  unfold applyTrigger
  split
  · exact setTrace_coreOnly s _
  · exact .refl s

theorem raiseJudged_coreOnly (u : ListRun) (limited lost : Bool) : CoreOnly s (s.raiseJudged u limited lost) :=
  ((((raiseIf_coreOnly s _ _).trans (raiseIf_coreOnly _ _ _)).trans (raiseIf_coreOnly _ _ _)).trans
    (raiseIf_coreOnly _ _ _)).trans (raiseIf_coreOnly _ _ _)

theorem endJudgement_cycleOnly (i : RecId) : CycleOnly s (s.endJudgement i) := by
  unfold endJudgement
  simp only
  split
  · exact ((setRec_cycleOnly s i _).trans (setVerdict_cycleOnly _ _)).trans (startJudgement_cycleOnly _ _)
  · exact (setRec_cycleOnly s i _).trans (setVerdict_cycleOnly _ _)

theorem offerFinding_linksOnly (x : Summary) : LinksOnly s (s.offerFinding x) := by
  unfold offerFinding
  split
  · exact offerNonReply_linksOnly s _
  · exact .refl s

/-- A completion writes the list, the slot and the summary, offers its Finding to the links, and then sets the trace, flags and
records (R81). -/
theorem completeJudgement_parts (j : Judging) :
    ∃ before x, CoreOnly s before ∧ CoreOnly (before.offerFinding x) (s.completeJudgement j) ∨
      CoreOnly s (s.completeJudgement j) := by
  unfold completeJudgement
  split
  case h_1 slot cycle _ _ =>
    exact ⟨_, _, .inl ⟨((setSuspects_coreOnly s _).trans (applyToSlot_coreOnly _ _ slot _)).trans (setVerdict_cycleOnly _ _).toCoreOnly,
      ((applyTrigger_coreOnly _ _ _).trans (raiseJudged_coreOnly _ _ _ _)).trans (endJudgement_cycleOnly _ _).toCoreOnly⟩⟩
  · exact ⟨s, ⟨0, 0, 0, []⟩, .inr (endJudgement_cycleOnly s _).toCoreOnly⟩

/-! ### The loads -/

theorem replaceChannels_coreOnly (xs : List ChannelEntry) : CoreOnly s (s.replaceChannels xs) :=
  (setTables_coreOnly s _).trans (setTrace_coreOnly _ _)

theorem commitMould_coreOnly (slot : Fin 16) (m : MouldRecord) : CoreOnly s (s.commitMould slot m) := by
  unfold commitMould
  simp only
  split
  · exact ((setMoulds_coreOnly s _).trans (setSuspects_coreOnly _ _)).trans (setMonitor_coreOnly _ _)
  · exact (setMoulds_coreOnly s _).trans (setSuspects_coreOnly _ _)

theorem setLoad_coreOnly (x : Option OpenLoad) : CoreOnly s (s.setLoad x) := setEngine_coreOnly s _

theorem commitLoad_coreOnly (l : OpenLoad) : CoreOnly s (commitLoad l s).1 := by
  unfold commitLoad
  simp only
  split
  · split
    · exact setLoad_coreOnly s none
    · exact (setLoad_coreOnly s none).trans (replaceChannels_coreOnly _ _)
  · split
    · exact setLoad_coreOnly s none
    · split
      · exact setLoad_coreOnly s none
      · exact (setLoad_coreOnly s none).trans (commitMould_coreOnly _ _ _)

theorem proceedLoad_coreOnly (l : OpenLoad) : CoreOnly s (proceedLoad l s).1 := by
  unfold proceedLoad
  split
  · exact commitLoad_coreOnly s l
  · exact setLoad_coreOnly s _

end State

end Sys2Proof.Machine
end

section
/-! Waiting commands and flags. Every effect leaves the waiting commands alone; and none but a reset, a RESTART and a Clear
Conditions clears a flag. -/

namespace Sys2Proof.Machine

/-- The waiting commands are left alone and no flag is cleared. -/
structure Onward (s t : State) : Prop where
  pending : t.pending = s.pending
  flags   : ∀ c : Condition, c.isIn s.cond.flags = true → c.isIn t.cond.flags = true

namespace Onward

theorem refl (s : State) : Onward s s := ⟨rfl, fun _ h => h⟩

theorem trans {s t u : State} (h : Onward s t) (g : Onward t u) : Onward s u :=
  ⟨g.pending.trans h.pending, fun c hc => g.flags c (h.flags c hc)⟩

end Onward

theorem LinksOnly.onward {s t : State} (h : LinksOnly s t) : Onward s t := ⟨h.pending, h.flags⟩

theorem CoreOnly.onward {s t : State} (h : CoreOnly s t) : Onward s t := ⟨h.pending, h.flags⟩

namespace State

variable (s : State)

theorem routeU_onward (f : Frame) : Onward s (s.routeU f) := by
  unfold routeU
  split
  · exact (raise_linksOnly s _).onward
  · unfold routeDown
    split
    · split
      · unfold routeSample
        simp only
        split
        · exact (offerCopy_coreOnly s f).onward.trans (offerForward_linksOnly _ _).onward
        · exact (offerCopy_coreOnly s f).onward
      · exact (raise_linksOnly s _).onward.trans (offerForward_linksOnly _ _).onward
    · exact (offerForward_linksOnly s _).onward

theorem routeD_onward (f : Frame) : Onward s (s.routeD f) := by
  unfold routeD
  split
  · exact (raise_linksOnly s _).onward
  · unfold routeUp
    split
    · exact (routeOwn_coreOnly s f).onward
    · split
      · unfold routeMark
        split
        · exact (showMark_cycleOnly s f).toCoreOnly.onward.trans (offerUpward_linksOnly _ _).onward
        · exact (raise_linksOnly s _).onward.trans (offerUpward_linksOnly _ _).onward
      · exact (offerUpward_linksOnly s _).onward

theorem handOn_onward (p : Port) (f : Frame) : Onward s (s.handOn p f) := by
  cases p
  · exact (podHears_linksOnly s f).onward.trans (routeU_onward _ f)
  · exact routeD_onward s f

theorem receiveEnd_onward (p : Port) : Onward s (s.receiveEnd p) := by
  unfold receiveEnd
  split
  · exact (raise_linksOnly s _).onward
  · simp only
    split
    · exact (setFraming_linksOnly s p _).onward.trans (handOn_onward _ p _)
    · exact ((setFraming_linksOnly s p _).trans (raise_linksOnly _ _)).onward
  · exact (setFraming_linksOnly s p _).onward

theorem completeJudgement_onward (j : Judging) : Onward s (s.completeJudgement j) := by
  obtain ⟨before, x, ⟨h, g⟩ | h⟩ := s.completeJudgement_parts j
  · exact (h.onward.trans (offerFinding_linksOnly before x).onward).trans g.onward
  · exact h.onward

/-- An idle or a held transmitter's frames, and the sent flow states that follow them, are no pod's state. -/
theorem setForward_podState (q : List (List Byte)) (p : PodId) : (s.setForward q).pods[p].state = s.pods[p].state := by
  have hmap : ∀ f : PodId → Pod → Pod, (∀ i x, (f i x).state = x.state) → (s.mapPods f).pods[p].state = s.pods[p].state :=
    fun f hf => by simp [mapPods, setPods, hf]
  rw [setForward_pods]
  split
  · split
    · exact hmap _ fun i x => by split <;> rfl
    · exact hmap _ fun i x => by split <;> rfl
  · rfl

theorem decideD_podState (p : PodId) : s.decideD.pods[p].state = s.pods[p].state := by
  unfold decideD
  split
  · split
    · rfl
    · exact setForward_podState s _ p
    · rfl
    · split
      · exact setForward_podState s _ p
      · rfl
  · rfl

/-! ### Standing causes -/

theorem causeHolds_congr {s u : State} (hm : u.monitor = s.monitor) (hs : u.suspects = s.suspects)
    (ht : u.tables.setup = s.tables.setup) (hp : ∀ p : PodId, u.pods[p].state = s.pods[p].state) (hd : u.moulds = s.moulds)
    (hst : u.stall = s.stall) (hu : u.portU.signal = s.portU.signal) (hv : u.portD.signal = s.portD.signal) :
    u.causeHolds = s.causeHolds := by
  have hsilent : u.podSilentCause = s.podSilentCause := by
    simp only [podSilentCause, podPresent, podSetup, ht, hp]
  funext c
  cases c <;>
    simp [causeHolds, crackCause, mouldChangedCause, mouldUnknownCause, stallCause, linkFaultCause, mould, *]

theorem decideD_causeHolds : s.decideD.causeHolds = s.causeHolds := by
  have hpods := s.decideD_podState
  obtain ⟨_, _, _, _, _, _, h⟩ := s.decideD_frame
  rw [h] at hpods ⊢
  exact causeHolds_congr rfl rfl rfl hpods rfl rfl rfl rfl

theorem placeOwn_causeHolds (f : OwnFrame) : (s.placeOwn f).causeHolds = s.causeHolds :=
  decideD_causeHolds (s.setOwn _)

theorem offerNonReply_causeHolds (f : OwnFrame) : (s.offerNonReply f).causeHolds = s.causeHolds := by
  unfold offerNonReply
  split
  · exact placeOwn_causeHolds s f
  · rfl

/-- The end of a step changes no standing cause (R115). -/
theorem settle_causeHolds (before : State) : (settle before s).causeHolds = s.causeHolds := by
  have hnotice : (offerNotice before (causesArise before s)).causeHolds = s.causeHolds := by
    unfold offerNotice
    split
    · exact offerNonReply_causeHolds (causesArise before s) _
    · rfl
  exact hnotice

theorem isIn_settle_of_causesArise {before : State} {c : Condition} (h : c.isIn (causesArise before s).cond.flags = true) :
    c.isIn (settle before s).cond.flags = true :=
  (driveLines_linksOnly _).flags c ((offerNotice_linksOnly (causesArise before s) before).flags c h)

end State

end Sys2Proof.Machine
end

section
/-! The lines and the standing causes along the steps (R115, R116, R120, R123). The end of a step drives the lines on the state it
leaves and sets the flag of every cause that arose; a cause that held before has its flag set already, and an effect clears the
flag of no cause that holds after it. -/

namespace Sys2Proof.Machine

/-- The waiting commands are left alone, and no flag is cleared whose standing cause holds afterwards. -/
structure KeepsCauses (s t : State) : Prop where
  pending : t.pending = s.pending
  flags   : ∀ c : Condition, c.isIn s.cond.flags = true → t.causeHolds c = true → c.isIn t.cond.flags = true

theorem Onward.keepsCauses {s t : State} (h : Onward s t) : KeepsCauses s t := ⟨h.pending, fun c hc _ => h.flags c hc⟩

namespace State

variable (s : State)

theorem haltRec_cycleOnly (i : RecId) : CycleOnly s (s.haltRec i) := by
  rw [haltRec_eq]
  exact setTracker_cycleOnly s _

theorem enterWatching_onward : Onward s s.enterWatching :=
  ((setEngine_coreOnly s _).trans (setTracker_cycleOnly _ _).toCoreOnly).onward.trans (mapPods_linksOnly _ _).onward

theorem restPods_linksOnly : LinksOnly s s.restPods := mapPods_linksOnly s _

theorem enterHalted_onward : Onward s s.enterHalted :=
  ((((setEngine_coreOnly s _).trans (haltRec_cycleOnly _ .a).toCoreOnly).trans (haltRec_cycleOnly _ .b).toCoreOnly).trans
    (setExam_coreOnly _ [])).onward.trans (restPods_linksOnly _).onward

theorem emptyQueues_linksOnly : LinksOnly s s.emptyQueues :=
  (((setForward_linksOnly s []).trans (setUpward_linksOnly _ [])).trans (setOwn_linksOnly _ [])).trans
    { LinksOnly.refl _ with }

theorem restartBlocks_pending : s.restartBlocks.pending = s.pending :=
  (emptyQueues_linksOnly (((s.setEngine ⟨.halted, [], none, .restart⟩).setTracker Tracker.reset).setExam [])).pending

/-- A RESTART sets the flags of just the causes that hold after it (R130). -/
theorem restarted_keepsCauses : KeepsCauses s s.restarted := by
  unfold restarted
  simp only
  generalize ht : s.restartBlocks = t
  refine ⟨ht ▸ s.restartBlocks_pending, fun c _ hcause => ?_⟩
  exact (isIn_standing t c).trans hcause

/-- No standing cause holds after a power-on or line reset (R115, R184). -/
theorem resetBy_causeHolds (cause : ResetCause) (pins : Pins) (c : Condition) :
    (s.resetBy cause pins).causeHolds c = false := by
  cases c <;> rfl

theorem setSetup_coreOnly (x : Setup) : CoreOnly s (s.setSetup x) := setTables_coreOnly s _

theorem replaceBandSets_coreOnly (pairs : List BandPair) : CoreOnly s (s.replaceBandSets pairs) := setTables_coreOnly s _

end State

/-- A request's own part clears the flag of no cause that holds after it. -/
theorem Asked.keepsCauses {s t : State} (h : Asked s t) : KeepsCauses s t := by
  cases h with
  | same => exact (Onward.refl s).keepsCauses
  | started => exact s.enterWatching_onward.keepsCauses
  | halted => exact s.enterHalted_onward.keepsCauses
  | restarted => exact s.restarted_keepsCauses
  | setup su => exact (s.setSetup_coreOnly su).onward.keepsCauses
  | bandSets pairs => exact (s.replaceBandSets_coreOnly pairs).onward.keepsCauses
  | noChannels => exact (s.replaceChannels_coreOnly []).onward.keepsCauses
  | proceeded l => exact (s.proceedLoad_coreOnly l).onward.keepsCauses
  | aborted => exact (s.setLoad_coreOnly none).onward.keepsCauses
  | confirmed => exact (s.setMonitor_coreOnly _).onward.keepsCauses
  | released => exact (s.setSuspects_coreOnly _).onward.keepsCauses
  | relearned => exact ((s.setSuspects_coreOnly _).trans (State.setMoulds_coreOnly _ _)).onward.keepsCauses
  | cleared flags hf => exact ⟨rfl, hf⟩
  | enabled x => exact ⟨rfl, fun _ hc _ => hc⟩
  | selected => exact (s.setTrace_coreOnly _).onward.keepsCauses
  | frozen => exact (s.setTrace_coreOnly _).onward.keepsCauses
  | unfrozen => exact (s.setTrace_coreOnly _).onward.keepsCauses
  | untraced => exact (s.setTrace_coreOnly _).onward.keepsCauses

/-- A command's effect clears the flag of no cause that holds after it. -/
theorem Effect.keepsCauses {s u : State} (h : Effect s u) : KeepsCauses s u := by
  have arrives (p : Port) : Onward s (s.symbolArrives p) := (s.symbolArrives_linksOnly p).onward
  cases h with
  | reset cause pins => exact ⟨rfl, fun c _ hc => absurd hc (by simp [State.resetBy_causeHolds])⟩
  | startSymbol p => exact ((arrives p).trans (State.receiveStart_linksOnly _ p).onward).keepsCauses
  | frame p data =>
    exact (((arrives p).trans (State.dataRun_linksOnly _ p data).onward).trans (State.receiveEnd_onward _ p)).keepsCauses
  | dataSymbol p b => exact ((arrives p).trans (State.receiveData_linksOnly _ p b).onward).keepsCauses
  | overlength p _ =>
    exact (((arrives p).trans (State.raise_linksOnly _ _).onward).trans (State.setFraming_linksOnly _ p _).onward).keepsCauses
  | strayByte p => exact ((arrives p).trans (State.raise_linksOnly _ _).onward).keepsCauses
  | symbol p => exact (arrives p).keepsCauses
  | violation p => exact (s.breakFrame_linksOnly p).onward.keepsCauses
  | hold p => exact ((arrives p).trans (State.hold_linksOnly _ p).onward).keepsCauses
  | go p => exact ((arrives p).trans (State.release_linksOnly _ p).onward).keepsCauses
  | idle p =>
    exact (((arrives p).trans (State.breakFrame_linksOnly _ p).onward).trans (State.release_linksOnly _ p).onward).keepsCauses
  | lost p => exact (s.loseSignal_linksOnly p).onward.keepsCauses
  | sentFrame p => exact (s.endFrame_linksOnly p).onward.keepsCauses
  | stall => exact s.stallExpires_linksOnly.onward.keepsCauses
  | silence p _ =>
    exact (((s.mapPods_linksOnly _).onward.trans (State.joinSilenced_cycleOnly (s.silence p) p).toCoreOnly.onward).trans
      (State.raise_linksOnly _ _).onward).keepsCauses
  | cycle i => exact (s.cycleExpires_cycleOnly i).toCoreOnly.onward.keepsCauses
  | grace i => exact (s.graceExpires_cycleOnly i).toCoreOnly.onward.keepsCauses
  | judged j => exact (s.completeJudgement_onward j).keepsCauses
  | examined c rest => exact (s.examine_coreOnly c rest).onward.keepsCauses
  | rawChange x => exact (s.rawChanges_cycleOnly x).toCoreOnly.onward.keepsCauses
  | debounced x => exact (s.debounceExpires_cycleOnly x).toCoreOnly.onward.keepsCauses
  | loadTimer => exact ((s.setLoad_coreOnly none).trans (State.raise_coreOnly _ _)).onward.keepsCauses
  | request r rest t a _ _ ht =>
    have hreply : LinksOnly t (t.reply r a) := State.placeOwn_linksOnly t _
    obtain ⟨hpending, hflags⟩ := ht.keepsCauses
    refine ⟨hreply.pending.trans hpending, fun c hc hcause => hreply.flags c (hflags c hc ?_)⟩
    rwa [State.reply_eq, State.placeOwn_causeHolds] at hcause

/-- Settles O2: whatever a command answers, it is a next state, and neither an effect nor the end of a step touches the queue. -/
theorem everyCommandAnswersNext : Obligations.EveryCommandAnswersNext := by
  intro c s
  rcases exec_answers c s with hsame | ⟨u, heff, hnext⟩
  · exact ⟨s, hsame, rfl⟩
  · exact ⟨_, hnext, (State.settle_linksOnly u s).pending.trans heff.keepsCauses.pending⟩

/-! ### The laws of the lines and of the causes -/

/-- The lines are driven on the state that a step leaves (R123). -/
theorem settle_linesLaw (s u : State) : LinesLaw (State.settle s u) :=
  (State.evalLines_congr rfl rfl rfl rfl).symm

/-- A cause that holds after the end of a step arose in it, or held before and kept its flag (R116). -/
theorem CauseLaw.settle {s u : State} (hs : CauseLaw s) (h : KeepsCauses s u) : CauseLaw (State.settle s u) := by
  intro c hc
  rw [State.settle_causeHolds] at hc
  refine State.isIn_settle_of_causesArise u ((State.isIn_causesArise s u c).mpr ?_)
  cases hbefore : s.causeHolds c with
  | true => exact .inl (h.flags c (hs c hbefore) hc)
  | false => exact .inr ⟨hc, rfl⟩

/-- A symbol boundary changes what is sent, and nothing of what is received (R133, R141). -/
theorem LinkPort.boundary_frame (p : LinkPort) :
    ∃ tx due sent, p.boundary = { p with tx := tx, flowDue := due, sent := sent } := by
  unfold boundary
  split
  · exact ⟨p.tx, _, _, rfl⟩
  · split
    · exact ⟨p.tx, p.flowDue, _, rfl⟩
    · split
      · exact ⟨_, p.flowDue, _, rfl⟩
      · exact ⟨_, _, _, rfl⟩
      · exact ⟨_, _, _, rfl⟩

theorem LinkPort.boundary_signal (p : LinkPort) : p.boundary.signal = p.signal := by
  obtain ⟨_, _, _, h⟩ := p.boundary_frame
  rw [h]

/-- Settles O55: no effect clears the flag of a cause that holds after it (`Effect.keepsCauses`), and the end of a step does the
rest. -/
theorem stepsKeepLinesAndCauses : Obligations.StepsKeepLinesAndCauses := by
  intro s t hlines hcauses hstep
  rcases step_cases hstep with rfl | ⟨rest, rfl | ⟨u, heff, rfl⟩⟩
  · have hc : s.symbolBoundary.causeHolds = s.causeHolds := by
      refine State.causeHolds_congr rfl rfl rfl (fun _ => rfl) rfl rfl ?_ ?_
      · exact LinkPort.boundary_signal s.portU
      · exact LinkPort.boundary_signal s.portD
    refine ⟨hlines.trans (State.evalLines_congr rfl rfl rfl rfl).symm, fun c h => hcauses c ?_⟩
    rwa [hc] at h
  · exact ⟨hlines, hcauses⟩
  · have hbefore : CauseLaw (s.setPending rest) := hcauses
    exact ⟨settle_linesLaw _ _, hbefore.settle heff.keepsCauses⟩

end Sys2Proof.Machine
end

section
/-! Frames in motion (R141, R154 to R159). The queues of frames keep their sizes, the sent flow states follow them, and no
transmitter stands idle over a waiting frame. A frame that joins a queue may leave a transmitter idle over it for the moment; the
decision point that follows sets that right, whatever the state it finds. -/

namespace Sys2Proof.Machine

/-- The queues of frames within their sizes, the pass-over count with its own head, and the sent flow states as the occupancies
ask. -/
structure Traffic (s : State) : Prop where
  forward     : s.paths.forward.length ≤ 8
  upward      : s.paths.upward.length ≤ 4
  own         : s.paths.own.length ≤ 12
  nonReplies  : s.nonReplies ≤ 10
  passOver    : s.paths.passOver ≤ 3
  passOverOwn : s.paths.own = [] → s.paths.passOver = 0
  flow        : FlowLaw s

/-- The port U half of `NoIdleWait`. -/
def State.NoIdleWaitU (s : State) : Prop :=
  s.portU.tx = none → s.portU.rxFlow = .released → s.paths.upward = []

/-- The queues of frames as every step leaves them. -/
structure TrafficLaw (s : State) : Prop extends Traffic s where
  idleD : s.NoIdleWaitD
  idleU : s.NoIdleWaitU

/-- The other queues within their sizes (R24, R92, R163). -/
structure Backlog (s : State) : Prop where
  inbox    : s.engine.inbox.length ≤ 4
  exam     : s.exam.length ≤ 16
  suspects : s.suspects.length ≤ 32

theorem queues_iff (s : State) : NoIdleWait s ∧ QueueLaw s ∧ FlowLaw s ↔ TrafficLaw s ∧ Backlog s := by
  constructor
  · rintro ⟨⟨hd, hu⟩, ⟨h1, h2, h3, h4, h5, h6, h7, h8, h9⟩, hf⟩
    exact ⟨⟨⟨h1, h2, h3, h4, h5, h6, hf⟩, hd, hu⟩, ⟨h7, h8, h9⟩⟩
  · rintro ⟨⟨⟨h1, h2, h3, h4, h5, h6, hf⟩, hd, hu⟩, ⟨h7, h8, h9⟩⟩
    exact ⟨⟨hd, hu⟩, ⟨h1, h2, h3, h4, h5, h6, h7, h8, h9⟩, hf⟩

/-! ### What the laws of traffic read -/

/-- A port that transmits as before: the same frame in progress under the same flow states. -/
structure LinkPort.SendsAs (p q : LinkPort) : Prop where
  tx     : q.tx = p.tx
  rxFlow : q.rxFlow = p.rxFlow
  txFlow : q.txFlow = p.txFlow

theorem LinkPort.SendsAs.refl (p : LinkPort) : p.SendsAs p := ⟨rfl, rfl, rfl⟩

section
variable {s t : State}

theorem FlowLaw.congr (h : FlowLaw s) (hp : t.paths = s.paths) (hu : t.portU.txFlow = s.portU.txFlow)
    (hd : t.portD.txFlow = s.portD.txFlow) : FlowLaw t := by
  unfold FlowLaw
  rwa [hp, hu, hd]

theorem Traffic.congr (h : Traffic s) (hp : t.paths = s.paths) (hu : t.portU.txFlow = s.portU.txFlow)
    (hd : t.portD.txFlow = s.portD.txFlow) : Traffic t := by
  obtain ⟨h1, h2, h3, h4, h5, h6, hf⟩ := h
  refine ⟨?_, ?_, ?_, ?_, ?_, ?_, hf.congr hp hu hd⟩
  all_goals first
    | rwa [hp]
    | rwa [State.nonReplies, hp]

theorem State.NoIdleWaitD.congr (h : s.NoIdleWaitD) (hp : t.paths = s.paths) (hd : s.portD.SendsAs t.portD) :
    t.NoIdleWaitD := by
  unfold State.NoIdleWaitD
  rwa [hp, hd.tx, hd.rxFlow]

theorem State.NoIdleWaitU.congr (h : s.NoIdleWaitU) (hp : t.paths.upward = s.paths.upward) (hu : s.portU.SendsAs t.portU) :
    t.NoIdleWaitU := by
  unfold State.NoIdleWaitU
  rwa [hp, hu.tx, hu.rxFlow]

theorem TrafficLaw.congr (h : TrafficLaw s) (hp : t.paths = s.paths) (hu : s.portU.SendsAs t.portU)
    (hd : s.portD.SendsAs t.portD) : TrafficLaw t :=
  ⟨h.toTraffic.congr hp hu.txFlow hd.txFlow, h.idleD.congr hp hd, h.idleU.congr (by rw [hp]) hu⟩

theorem TrafficLaw.coreOnly (h : TrafficLaw s) (hc : CoreOnly s t) : TrafficLaw t :=
  h.congr hc.paths (hc.portU ▸ .refl _) (hc.portD ▸ .refl _)

theorem TrafficLaw.setPort (h : TrafficLaw s) (p : Port) {x : LinkPort} (hx : (s.port p).SendsAs x) :
    TrafficLaw (s.setPort p x) := by
  cases p
  · exact h.congr rfl hx (.refl _)
  · exact h.congr rfl (.refl _) hx

theorem TrafficLaw.raise (h : TrafficLaw s) (c : Condition) : TrafficLaw (s.raise c) := h.coreOnly (s.raise_coreOnly c)

theorem Backlog.linksOnly (h : Backlog s) (hl : LinksOnly s t) : Backlog t := by
  obtain ⟨h1, h2, h3⟩ := h
  exact ⟨by rwa [hl.engine], by rwa [hl.exam], by rwa [hl.suspects]⟩

theorem Backlog.cycleOnly (h : Backlog s) (hc : CycleOnly s t) : Backlog t := by
  obtain ⟨h1, h2, h3⟩ := h
  exact ⟨by rwa [hc.engine], by rwa [hc.exam], by rwa [hc.suspects]⟩

end

/-! ### The queues take a content -/

theorem nextTxFlow_of_high {high low n : Nat} (now : TxFlow) (h : high ≤ n) : nextTxFlow high low now n = .hold := by
  simp [nextTxFlow, h]

theorem nextTxFlow_of_low {high low n : Nat} (now : TxFlow) (hlow : low < high) (h : n ≤ low) :
    nextTxFlow high low now n = .go := by
  simp [nextTxFlow, h, show ¬high ≤ n by omega]

namespace State

variable {s : State}

theorem setForward_traffic (h : Traffic s) {q : List (List Byte)} (hq : q.length ≤ 8) : Traffic (s.setForward q) := by
  obtain ⟨-, -, hu, hg⟩ := h.flow
  rw [setForward_eq]
  exact { h with
    forward := hq
    flow := ⟨nextTxFlow_of_high _, nextTxFlow_of_low _ (by decide), hu, hg⟩ }

theorem setUpward_traffic (h : Traffic s) {q : List (List Byte)} (hq : q.length ≤ 4) : Traffic (s.setUpward q) := by
  obtain ⟨hu, hg, -, -⟩ := h.flow
  rw [setUpward_eq]
  exact { h with
    upward := hq
    flow := ⟨hu, hg, nextTxFlow_of_high _, nextTxFlow_of_low _ (by decide)⟩ }

/-- The upward queue and port U's transmitter take no part in what follows the forward queue. -/
theorem setForward_noIdleWaitU (h : s.NoIdleWaitU) (q : List (List Byte)) : (s.setForward q).NoIdleWaitU := by
  rw [setForward_eq]
  exact h

theorem setUpward_noIdleWaitD (h : s.NoIdleWaitD) (q : List (List Byte)) : (s.setUpward q).NoIdleWaitD := h

/-! ### Decision points -/

theorem grantForward_traffic (h : Traffic s) {f : List Byte} {fs : List (List Byte)} (hf : s.paths.forward = f :: fs)
    {count : Nat} (hc : count ≤ 3) (ho : s.paths.own = [] → count = 0) : Traffic (s.grantForward f fs count) := by
  have hlen : fs.length ≤ 8 := by have := h.forward; rw [hf] at this; simp at this; omega
  have hq := setForward_traffic h hlen
  have hown : (s.setForward fs).paths.own = s.paths.own := by rw [setForward_eq]
  exact { hq with
    passOver := hc
    passOverOwn := fun he => ho (hown ▸ he) }

theorem grantOwn_traffic (h : Traffic s) {o : OwnFrame} {os : List OwnFrame} (ho : s.paths.own = o :: os) :
    Traffic (s.grantOwn o os) := by
  have hlen : os.length ≤ 12 := by have := h.own; rw [ho] at this; simp at this; omega
  have hcount : os.countP (fun f => !f.isReply) ≤ 10 := by
    have hn := h.nonReplies
    rw [nonReplies, ho, List.countP_cons] at hn
    omega
  exact { h with own := hlen, nonReplies := hcount, passOver := Nat.zero_le 3, passOverOwn := fun _ => rfl, flow := h.flow }

theorem decideD_traffic (h : Traffic s) : Traffic s.decideD := by
  unfold decideD
  split
  · split
    · exact h
    case h_2 f fs hf ho => exact grantForward_traffic h hf (Nat.zero_le 3) fun _ => rfl
    case h_3 o os hf ho => exact grantOwn_traffic h ho
    case h_4 f fs o os hf ho =>
      split
      case isTrue hlt => exact grantForward_traffic h hf hlt fun he => absurd (ho.symm.trans he) (by simp)
      · exact grantOwn_traffic h ho
  · exact h

/-- A decision point leaves no frame waiting at an idle, released port D, whatever it finds (R158). -/
theorem decideD_noIdleWaitD (s : State) : s.decideD.NoIdleWaitD := by
  unfold decideD
  split
  · split
    case h_1 hf ho => exact fun _ _ => ⟨hf, ho⟩
    · exact nofun
    · exact nofun
    · split <;> exact nofun
  case isFalse hmay =>
    intro htx hrx
    exact absurd hmay (by simp [mayStart, port, htx, hrx])

theorem decideD_noIdleWaitU (h : s.NoIdleWaitU) : s.decideD.NoIdleWaitU := by
  obtain ⟨_, _, _, _, _, _, heq⟩ := s.decideD_frame
  rw [heq]
  exact h

theorem startU_traffic (h : Traffic s) : Traffic s.startU := by
  unfold startU
  split
  · split
    · exact h
    case h_2 f fs hu =>
      have hlen : fs.length ≤ 4 := by have := h.upward; rw [hu] at this; simp at this; omega
      exact (setUpward_traffic h hlen).congr rfl rfl rfl
  · exact h

theorem startU_noIdleWaitU (s : State) : s.startU.NoIdleWaitU := by
  unfold startU
  split
  · split
    case h_1 hu => exact fun _ _ => hu
    · exact nofun
  case isFalse hmay =>
    intro htx hrx
    exact absurd hmay (by simp [mayStart, port, htx, hrx])

theorem startU_noIdleWaitD (h : s.NoIdleWaitD) : s.startU.NoIdleWaitD := by
  obtain ⟨_, _, _, heq⟩ := s.startU_frame
  rw [heq]
  exact h

theorem decideD_law (h : Traffic s) (hu : s.NoIdleWaitU) : TrafficLaw s.decideD :=
  ⟨decideD_traffic h, decideD_noIdleWaitD s, decideD_noIdleWaitU hu⟩

theorem startU_law (h : Traffic s) (hd : s.NoIdleWaitD) : TrafficLaw s.startU :=
  ⟨startU_traffic h, startU_noIdleWaitD hd, startU_noIdleWaitU s⟩

end State

namespace TrafficLaw

variable {s : State}

/-! ### Frames that join a queue -/

theorem offerForward (h : TrafficLaw s) (b : List Byte) : TrafficLaw (s.offerForward b) := by
  unfold State.offerForward
  split
  case isTrue hroom =>
    have hlen : (s.paths.forward ++ [b]).length ≤ 8 := by simpa using hroom
    exact State.decideD_law (State.setForward_traffic h.toTraffic hlen) (State.setForward_noIdleWaitU h.idleU _)
  · exact h.raise _

theorem offerUpward (h : TrafficLaw s) (b : List Byte) : TrafficLaw (s.offerUpward b) := by
  unfold State.offerUpward
  split
  case isTrue hroom =>
    have hlen : (s.paths.upward ++ [b]).length ≤ 4 := by simpa using hroom
    exact State.startU_law (State.setUpward_traffic h.toTraffic hlen) (State.setUpward_noIdleWaitD h.idleD _)
  · exact h.raise _

theorem placeOwn (h : TrafficLaw s) {f : OwnFrame} (hroom : s.paths.own.length < 12)
    (hkind : f.isReply = true ∨ s.nonReplies < 10) : TrafficLaw (s.placeOwn f) := by
  have hcount : (s.paths.own ++ [f]).countP (fun f => !f.isReply) ≤ 10 := by
    have hn := h.nonReplies
    unfold State.nonReplies at hn hkind
    rw [List.countP_append]
    rcases hkind with hr | hlt
    · simpa [hr] using hn
    · have : [f].countP (fun f => !f.isReply) ≤ 1 := List.countP_le_length
      omega
  exact State.decideD_law (s := s.setOwn (s.paths.own ++ [f]))
    { h.toTraffic with own := by simpa [State.setOwn] using hroom, nonReplies := hcount, passOverOwn := by simp [State.setOwn] }
    h.idleU

theorem reply (h : TrafficLaw s) (hroom : s.paths.own.length < 12) (r : Request) (a : Answer) : TrafficLaw (s.reply r a) :=
  h.placeOwn hroom (.inl rfl)

theorem offerNonReply (h : TrafficLaw s) (f : OwnFrame) : TrafficLaw (s.offerNonReply f) := by
  unfold State.offerNonReply
  split
  case isTrue hroom =>
    simp only [State.roomForNonReply, Bool.and_eq_true, decide_eq_true_eq] at hroom
    exact h.placeOwn hroom.1 (.inr hroom.2)
  · exact h.raise _

theorem settle (h : TrafficLaw s) (before : State) : TrafficLaw (State.settle before s) := by
  have harise : TrafficLaw (State.causesArise before s) := h.congr rfl (.refl _) (.refl _)
  have hnotice : TrafficLaw (State.offerNotice before (State.causesArise before s)) := by
    unfold State.offerNotice
    split
    · exact harise.offerNonReply _
    · exact harise
  exact hnotice.congr rfl (.refl _) (.refl _)

/-! ### Receivers -/

theorem setFraming (h : TrafficLaw s) (p : Port) (x : Framing) : TrafficLaw (s.setFraming p x) := h.setPort p ⟨rfl, rfl, rfl⟩

theorem symbolArrives (h : TrafficLaw s) (p : Port) : TrafficLaw (s.symbolArrives p) := h.setPort p ⟨rfl, rfl, rfl⟩

theorem receiveStart (h : TrafficLaw s) (p : Port) : TrafficLaw (s.receiveStart p) := by
  unfold State.receiveStart
  split
  · exact h.setFraming p _
  · exact (h.raise _).setFraming p _
  · exact h.setFraming p _

theorem receiveData (h : TrafficLaw s) (p : Port) (b : Byte) : TrafficLaw (s.receiveData p b) := by
  unfold State.receiveData
  split
  · exact h.raise _
  · split
    · exact h.setFraming p _
    · exact (h.raise _).setFraming p _
  · exact h

theorem dataRun (h : TrafficLaw s) (p : Port) (data : List Byte) :
    TrafficLaw (data.foldl (fun u b => u.receiveData p b) s) :=
  List.foldlRecOn data _ h fun _ hu b _ => hu.receiveData p b

theorem breakFrame (h : TrafficLaw s) (p : Port) : TrafficLaw (s.breakFrame p) := by
  unfold State.breakFrame
  split
  · exact h.setFraming p _
  · exact (h.raise _).setFraming p _
  · exact h.setFraming p _

theorem hold (h : TrafficLaw s) (p : Port) : TrafficLaw (s.hold p) := by
  unfold State.hold
  split
  · exact h
  · cases p
    · exact ⟨h.toTraffic.congr rfl rfl rfl, h.idleD, nofun⟩
    · exact ⟨h.toTraffic.congr rfl rfl rfl, nofun, h.idleU⟩

theorem release (h : TrafficLaw s) (p : Port) : TrafficLaw (s.release p) := by
  unfold State.release
  split
  · exact h
  · cases p
    · exact State.startU_law (h.toTraffic.congr rfl rfl rfl) h.idleD
    · exact State.decideD_law (h.toTraffic.congr rfl rfl rfl) h.idleU

theorem loseSignal (h : TrafficLaw s) (p : Port) : TrafficLaw (s.loseSignal p) :=
  ((h.setPort p (x := { s.port p with signal := .lost, signalTimer := none, framing := .between }) ⟨rfl, rfl, rfl⟩).release
    p).raise _

end TrafficLaw

/-- The end of a frame changes what a transmitter sends, and none of the flow states (R133). -/
theorem LinkPort.finish_frame (p : LinkPort) :
    ∃ due sent, p.finish = { p with tx := none, flowDue := due, sent := sent } := by
  cases htx : p.tx with
  | none =>
    refine ⟨p.flowDue, p.sent, ?_⟩
    cases p
    cases htx
    rfl
  | some x => exact ⟨_, _, finish_of_frame htx⟩

theorem State.podHears_frame (s : State) (f : Frame) : ∃ pods, s.podHears f = { s with pods := pods } := by
  unfold podHears speaksFor
  split
  · split
    · exact ⟨_, rfl⟩
    · exact ⟨s.pods, rfl⟩
  · exact ⟨s.pods, rfl⟩

namespace TrafficLaw

variable {s : State}

theorem endFrame (h : TrafficLaw s) (p : Port) : TrafficLaw (s.endFrame p) := by
  have htx (q : LinkPort) : q.finish.txFlow = q.txFlow := by
    obtain ⟨_, _, hq⟩ := q.finish_frame
    rw [hq]
  cases p
  · exact State.startU_law (h.toTraffic.congr rfl (htx s.portU) rfl) h.idleD
  · exact State.decideD_law (h.toTraffic.congr rfl rfl (htx s.portD)) h.idleU

theorem symbolBoundary (h : TrafficLaw s) : TrafficLaw s.symbolBoundary := by
  have hflow (q : LinkPort) : q.boundary.txFlow = q.txFlow ∧ q.boundary.rxFlow = q.rxFlow := by
    obtain ⟨_, _, _, hq⟩ := q.boundary_frame
    rw [hq]
    exact ⟨rfl, rfl⟩
  have hidle (q : LinkPort) (hq : q.boundary.tx = none) : q.tx = none := by
    cases htx : q.tx with
    | none => rfl
    | some x =>
      unfold LinkPort.boundary at hq
      split at hq
      · exact absurd hq (by simp [htx])
      · rw [htx] at hq
        simp only at hq
        split at hq <;> simp_all
  refine ⟨h.toTraffic.congr rfl (hflow s.portU).1 (hflow s.portD).1, fun htx hrx => ?_, fun htx hrx => ?_⟩
  · exact h.idleD (hidle s.portD htx) ((hflow s.portD).2.symm.trans hrx)
  · exact h.idleU (hidle s.portU htx) ((hflow s.portU).2.symm.trans hrx)

/-! ### Good frames -/

theorem podHears (h : TrafficLaw s) (f : Frame) : TrafficLaw (s.podHears f) := by
  obtain ⟨_, heq⟩ := s.podHears_frame f
  rw [heq]
  exact h.congr rfl (.refl _) (.refl _)

theorem routeU (h : TrafficLaw s) (f : Frame) : TrafficLaw (s.routeU f) := by
  unfold State.routeU State.routeDown State.routeSample
  simp only
  split
  · exact h.raise _
  · split
    · split
      · split
        · exact (h.coreOnly (s.offerCopy_coreOnly f)).offerForward _
        · exact h.coreOnly (s.offerCopy_coreOnly f)
      · exact (h.raise _).offerForward _
    · exact h.offerForward _

theorem routeD (h : TrafficLaw s) (f : Frame) : TrafficLaw (s.routeD f) := by
  unfold State.routeD State.routeUp State.routeMark
  split
  · exact h.raise _
  · split
    · exact h.coreOnly (s.routeOwn_coreOnly f)
    · split
      · split
        · exact (h.coreOnly (s.showMark_cycleOnly f).toCoreOnly).offerUpward _
        · exact (h.raise _).offerUpward _
      · exact h.offerUpward _

theorem handOn (h : TrafficLaw s) (p : Port) (f : Frame) : TrafficLaw (s.handOn p f) := by
  cases p
  · exact (h.podHears f).routeU f
  · exact h.routeD f

theorem receiveEnd (h : TrafficLaw s) (p : Port) : TrafficLaw (s.receiveEnd p) := by
  unfold State.receiveEnd
  split
  · exact h.raise _
  · simp only
    split
    · exact (h.setFraming p _).handOn p _
    · exact (h.setFraming p _).raise _
  · exact h.setFraming p _

theorem completeJudgement (h : TrafficLaw s) (j : Judging) : TrafficLaw (s.completeJudgement j) := by
  obtain ⟨before, x, ⟨hbefore, hafter⟩ | hall⟩ := s.completeJudgement_parts j
  · have hfinding : TrafficLaw (before.offerFinding x) := by
      unfold State.offerFinding
      split
      · exact (h.coreOnly hbefore).offerNonReply _
      · exact h.coreOnly hbefore
    exact hfinding.coreOnly hafter
  · exact h.coreOnly hall

end TrafficLaw

/-! ### Requests and resets -/

theorem trafficLaw_resetBy (s : State) (cause : ResetCause) (pins : Pins) : TrafficLaw (s.resetBy cause pins) :=
  ⟨⟨Nat.zero_le _, Nat.zero_le _, Nat.zero_le _, Nat.zero_le _, Nat.zero_le _, fun _ => rfl,
    ⟨nofun, fun _ => rfl, nofun, fun _ => rfl⟩⟩, fun _ _ => ⟨rfl, rfl⟩, fun _ _ => rfl⟩

namespace State

/-- The queues of frames are empty and both sent flow states GO (R141, R161). -/
theorem emptyQueues_eq (s : State) :
    s.emptyQueues =
      { s with
        paths := ⟨[], [], [], 0⟩
        portU := s.portU.setFlow .go
        portD := s.portD.setFlow .go
        pods := (s.setForward []).pods } := by
  have hgo (high low : Nat) (now : TxFlow) : nextTxFlow (high + 1) low now ([] : List (List Byte)).length = .go := by
    simp [nextTxFlow]
  unfold emptyQueues
  rw [setForward_eq, setUpward_eq]
  simp only [hgo 5 2, hgo 2 1]
  rfl

/-- What a RESTART leaves of the links: empty queues, both sent flow states GO, and the pods at rest (R146, R161). -/
theorem restarted_links (s : State) :
    s.restarted.paths = ⟨[], [], [], 0⟩ ∧ s.restarted.portU = s.portU.setFlow .go ∧
      s.restarted.portD = s.portD.setFlow .go ∧ s.restarted.stall = s.stall ∧
      s.restarted.pods = Vector.replicate 8 Pod.reset := by
  unfold restarted restartBlocks
  rw [emptyQueues_eq, restPods_eq]
  exact ⟨rfl, rfl, rfl, rfl, rfl⟩

/-- What the entry to HALTED by HALT leaves (R18, R27, R146, R171). -/
theorem enterHalted_eq (s : State) :
    s.enterHalted =
      { s with
        engine := { s.engine with operating := .halted }
        tracker :=
          { s.tracker with
            a := if s.tracker.a.state = .judging ∨ s.tracker.a.state = .free then s.tracker.a
              else CycleRecord.freed s.tracker.a.number
            b := if s.tracker.b.state = .judging ∨ s.tracker.b.state = .free then s.tracker.b
              else CycleRecord.freed s.tracker.b.number }
        exam := []
        pods := Vector.replicate 8 Pod.reset } := by
  unfold enterHalted
  rw [restPods_eq, haltRec_eq, haltRec_eq]
  rfl

end State

theorem trafficLaw_of_empty {s : State} (hp : s.paths = ⟨[], [], [], 0⟩) (hu : s.portU.txFlow = .go)
    (hd : s.portD.txFlow = .go) : TrafficLaw s := by
  refine ⟨⟨?_, ?_, ?_, ?_, ?_, fun _ => ?_, ?_, fun _ => hu, ?_, fun _ => hd⟩, fun _ _ => ?_, fun _ _ => ?_⟩
  all_goals simp [State.nonReplies, hp]

/-- A request's own part leaves the queues of frames alone, but for a RESTART, which empties them. -/
theorem Asked.traffic {s t : State} (h : Asked s t) (hs : TrafficLaw s) :
    TrafficLaw t ∧ t.paths.own.length ≤ s.paths.own.length := by
  have core {t : State} (hc : CoreOnly s t) : TrafficLaw t ∧ t.paths.own.length ≤ s.paths.own.length :=
    ⟨hs.coreOnly hc, by rw [hc.paths]⟩
  have pods {t : State} (hc : CoreOnly s t) (f : PodId → Pod → Pod) :
      TrafficLaw (t.mapPods f) ∧ (t.mapPods f).paths.own.length ≤ s.paths.own.length :=
    ⟨(hs.coreOnly hc).congr rfl (.refl _) (.refl _), by simp [State.mapPods, hc.paths]⟩
  cases h with
  | same => exact core (.refl s)
  | started => exact pods ((s.setEngine_coreOnly _).trans (State.setTracker_cycleOnly _ _).toCoreOnly) _
  | halted =>
    rw [State.enterHalted_eq]
    exact ⟨hs.congr rfl (.refl _) (.refl _), le_rfl⟩
  | restarted =>
    obtain ⟨hp, hu, hd, -, -⟩ := s.restarted_links
    exact ⟨trafficLaw_of_empty hp (by rw [hu]; rfl) (by rw [hd]; rfl), by simp [hp]⟩
  | setup su => exact core (s.setSetup_coreOnly su)
  | bandSets pairs => exact core (s.replaceBandSets_coreOnly pairs)
  | noChannels => exact core (s.replaceChannels_coreOnly [])
  | proceeded l => exact core (s.proceedLoad_coreOnly l)
  | aborted => exact core (s.setLoad_coreOnly none)
  | confirmed => exact core (s.setMonitor_coreOnly _)
  | released => exact core (s.setSuspects_coreOnly _)
  | relearned => exact core ((s.setSuspects_coreOnly _).trans (State.setMoulds_coreOnly _ _))
  | cleared => exact ⟨hs.congr rfl (.refl _) (.refl _), le_rfl⟩
  | enabled => exact ⟨hs.congr rfl (.refl _) (.refl _), le_rfl⟩
  | selected => exact core (s.setTrace_coreOnly _)
  | frozen => exact core (s.setTrace_coreOnly _)
  | unfrozen => exact core (s.setTrace_coreOnly _)
  | untraced => exact core (s.setTrace_coreOnly _)

/-- Every effect keeps the queues of frames. -/
theorem Effect.traffic {s u : State} (h : Effect s u) (hs : TrafficLaw s) : TrafficLaw u := by
  cases h with
  | reset cause pins => exact trafficLaw_resetBy s cause pins
  | startSymbol p => exact (hs.symbolArrives p).receiveStart p
  | frame p data => exact ((hs.symbolArrives p).dataRun p data).receiveEnd p
  | dataSymbol p b => exact (hs.symbolArrives p).receiveData p b
  | overlength p _ => exact ((hs.symbolArrives p).raise _).setFraming p _
  | strayByte p => exact (hs.symbolArrives p).raise _
  | symbol p => exact hs.symbolArrives p
  | violation p => exact hs.breakFrame p
  | hold p => exact (hs.symbolArrives p).hold p
  | go p => exact (hs.symbolArrives p).release p
  | idle p => exact ((hs.symbolArrives p).breakFrame p).release p
  | lost p => exact hs.loseSignal p
  | sentFrame p => exact hs.endFrame p
  | stall => exact (hs.congr rfl (.refl _) (.refl _) : TrafficLaw (s.setStall ⟨none, true⟩)).raise _
  | silence p _ =>
    have hpods : TrafficLaw (s.silence p) := hs.congr rfl (.refl _) (.refl _)
    exact (hpods.coreOnly (State.joinSilenced_cycleOnly _ p).toCoreOnly).raise _
  | cycle i => exact hs.coreOnly (s.cycleExpires_cycleOnly i).toCoreOnly
  | grace i => exact hs.coreOnly (s.graceExpires_cycleOnly i).toCoreOnly
  | judged j => exact hs.completeJudgement j
  | examined c rest => exact hs.coreOnly (s.examine_coreOnly c rest)
  | rawChange x => exact hs.coreOnly (s.rawChanges_cycleOnly x).toCoreOnly
  | debounced x => exact hs.coreOnly (s.debounceExpires_cycleOnly x).toCoreOnly
  | loadTimer => exact (hs.coreOnly (s.setLoad_coreOnly none)).raise _
  | request r rest t a _ hroom ht =>
    have hpopped : TrafficLaw (s.popped rest) := hs.congr rfl (.refl _) (.refl _)
    obtain ⟨hlaw, hlen⟩ := ht.traffic hpopped
    have hown : s.paths.own.length < 12 := of_decide_eq_true hroom
    exact hlaw.reply (lt_of_le_of_lt hlen hown) r a

end Sys2Proof.Machine
end

section
/-! The other queues (R24, R92, R163): the inbox, the examination queue and the suspect list keep within their sizes. -/

namespace Sys2Proof.Machine

/-- The list has room for every entry that a result adds (R92, R102). -/
theorem ListRun.length_take_le {u : ListRun} (h : u.list.length ≤ 32) (m : MouldHeader) (slot : Fin 16) (cycle : Half)
    (x : SummaryEntry) : (u.take m slot cycle x).list.length ≤ 32 := by
  have hupdate (f : SuspectEntry → SuspectEntry) (wp : Fin 24) : (updateEntry u.list slot wp f).length ≤ 32 := by
    simpa [updateEntry] using h
  have hremove (wp : Fin 24) : (removeEntry u.list slot wp).length ≤ 32 := (List.length_filter_le _ _).trans h
  unfold ListRun.take
  split
  · unfold ListRun.deviate
    split
    · split
      case isTrue hroom => simpa using hroom
      · exact h
    · split
      · exact hupdate _ _
      · exact hupdate _ _
  · unfold ListRun.clean
    split
    · exact h
    · split
      · exact h
      · simp only
        split
        · exact hremove _
        · exact hupdate _ _
  · exact h
  · exact h

theorem length_listRun_le {list : List SuspectEntry} (h : list.length ≤ 32) (m : MouldHeader) (slot : Fin 16) (cycle : Half)
    (xs : List SummaryEntry) : (listRun list m slot cycle xs).list.length ≤ 32 :=
  List.foldlRecOn (motive := fun u : ListRun => u.list.length ≤ 32) xs _ h
    fun _ hu x _ => ListRun.length_take_le hu m slot cycle x

namespace State

theorem raiseJudged_linksOnly (s : State) (u : ListRun) (limited lost : Bool) :
    LinksOnly s (s.raiseJudged u limited lost) :=
  ((((raiseIf_linksOnly s _ _).trans (raiseIf_linksOnly _ _ _)).trans (raiseIf_linksOnly _ _ _)).trans
    (raiseIf_linksOnly _ _ _)).trans (raiseIf_linksOnly _ _ _)

/-- The trigger changes the trace alone (R90). -/
theorem applyTrigger_eq (s : State) (u : ListRun) (xs : List SummaryEntry) :
    s.applyTrigger u xs = s.setTrace (s.applyTrigger u xs).trace := by
  unfold applyTrigger
  split <;> rfl

/-- The trigger reads the trace and the tables (R90). -/
theorem applyTrigger_trace_congr {s t : State} (htrace : t.trace = s.trace) (htables : t.tables = s.tables) (u : ListRun)
    (xs : List SummaryEntry) : (t.applyTrigger u xs).trace = (s.applyTrigger u xs).trace := by
  unfold applyTrigger
  rw [htrace, htables]
  split
  · rfl
  · exact htrace

theorem applyToSlot_eq (s : State) (list : List SuspectEntry) (slot : Fin 16) (xs : List SummaryEntry) :
    s.applyToSlot list slot xs = s.setMoulds (s.applyToSlot list slot xs).moulds := by
  unfold applyToSlot
  split <;> rfl

theorem applyToSlot_moulds_congr {s t : State} (h : t.moulds = s.moulds) (list : List SuspectEntry) (slot : Fin 16)
    (xs : List SummaryEntry) : (t.applyToSlot list slot xs).moulds = (s.applyToSlot list slot xs).moulds := by
  unfold applyToSlot mould setMould
  rw [h]
  split
  · rfl
  · exact h

/-- The list as a judgement leaves it (R95). -/
def judgedRun (s : State) (j : Judging) (slot : Fin 16) (cycle : Half) : ListRun :=
  listRun s.suspects j.mould.header slot cycle (judgeAll (s.tracker.get j.record) j.mould)

/-- The results of a judgement with their suspect states (R83). -/
def judgedResults (s : State) (j : Judging) (slot : Fin 16) (cycle : Half) : List SummaryEntry :=
  rulings (s.judgedRun j slot cycle) slot (judgeAll (s.tracker.get j.record) j.mould)

/-- What a completion leaves, before its record goes FREE: the list, the slot and the trace, and the rest of the core as it was
(R81). -/
structure Judged (s t : State) (j : Judging) (slot : Fin 16) (cycle : Half) : Prop where
  engine   : t.engine = s.engine
  straps   : t.straps = s.straps
  tables   : t.tables = s.tables
  tracker  : t.tracker = s.tracker
  exam     : t.exam = s.exam
  monitor  : t.monitor = s.monitor
  judging  : t.verdict.judging = s.verdict.judging
  suspects : t.suspects = (s.judgedRun j slot cycle).list
  moulds   : t.moulds = (s.applyToSlot s.suspects slot (s.judgedResults j slot cycle)).moulds
  trace    : t.trace = (s.applyTrigger (s.judgedRun j slot cycle) (s.judgedResults j slot cycle)).trace

theorem applyJudgement_judged (s : State) (j : Judging) (slot : Fin 16) (cycle : Half) :
    Judged s (s.applyJudgement j slot cycle) j slot cycle := by
  have hraise (t : State) (a b : Bool) := raiseJudged_linksOnly t (s.judgedRun j slot cycle) a b
  have hwritten : ∃ x, LinksOnly (((s.setSuspects (s.judgedRun j slot cycle).list).applyToSlot s.suspects slot
      (s.judgedResults j slot cycle)).replaceSummary x)
      ((((s.setSuspects (s.judgedRun j slot cycle).list).applyToSlot s.suspects slot
      (s.judgedResults j slot cycle)).replaceSummary x).offerFinding x) ∧ ∃ a b, s.applyJudgement j slot cycle =
      (((((s.setSuspects (s.judgedRun j slot cycle).list).applyToSlot s.suspects slot
      (s.judgedResults j slot cycle)).replaceSummary x).offerFinding x).applyTrigger (s.judgedRun j slot cycle)
      (s.judgedResults j slot cycle)).raiseJudged (s.judgedRun j slot cycle) a b := ⟨_, offerFinding_linksOnly _ _, _, _, rfl⟩
  obtain ⟨x, hlinks, a, b, heq⟩ := hwritten
  rw [applyToSlot_eq, applyToSlot_moulds_congr (s := s) (t := s.setSuspects (s.judgedRun j slot cycle).list) rfl] at hlinks heq
  generalize (((s.setSuspects (s.judgedRun j slot cycle).list).setMoulds
    (s.applyToSlot s.suspects slot (s.judgedResults j slot cycle)).moulds).replaceSummary x).offerFinding x = v at hlinks heq
  have htrace : (v.applyTrigger (s.judgedRun j slot cycle) (s.judgedResults j slot cycle)).trace =
      (s.applyTrigger (s.judgedRun j slot cycle) (s.judgedResults j slot cycle)).trace :=
    applyTrigger_trace_congr (s := s) hlinks.trace hlinks.tables _ _
  rw [applyTrigger_eq, htrace] at heq
  generalize htr : (s.applyTrigger (s.judgedRun j slot cycle) (s.judgedResults j slot cycle)).trace = tr at heq
  have hlast := hraise (v.setTrace tr) a b
  rw [heq]
  refine ⟨hlast.engine.trans hlinks.engine, hlast.straps.trans hlinks.straps, hlast.tables.trans hlinks.tables,
    hlast.tracker.trans hlinks.tracker, hlast.exam.trans hlinks.exam, hlast.monitor.trans hlinks.monitor, ?_,
    hlast.suspects.trans hlinks.suspects, hlast.moulds.trans hlinks.moulds, ?_⟩
  · have hkept : v.verdict.judging = s.verdict.judging := by rw [hlinks.verdict]; rfl
    rw [hlast.verdict]
    exact hkept
  · exact hlast.trace.trans htr.symm

end State

namespace Backlog

variable {s : State}

theorem raise (h : Backlog s) (c : Condition) : Backlog (s.raise c) := h.linksOnly (s.raise_linksOnly c)

theorem completeJudgement (h : Backlog s) (j : Judging) : Backlog (s.completeJudgement j) := by
  unfold State.completeJudgement
  split
  case h_1 slot cycle _ _ =>
    have hj := s.applyJudgement_judged j slot cycle
    have happly : Backlog (s.applyJudgement j slot cycle) :=
      ⟨by rw [hj.engine]; exact h.inbox, by rw [hj.exam]; exact h.exam,
        by rw [hj.suspects]; exact length_listRun_le h.suspects _ _ _ _⟩
    exact happly.cycleOnly (State.endJudgement_cycleOnly _ _)
  · exact h.cycleOnly (s.endJudgement_cycleOnly _)

theorem examine (h : Backlog s) {c : Copy} {rest : List Copy} (he : s.exam = c :: rest) : Backlog (s.examine c rest) := by
  have hlen : rest.length ≤ 16 := by
    have := h.exam
    rw [he] at this
    exact (Nat.le_succ _).trans this
  have hqueue : Backlog ((s.setExam rest).setTrace (s.trace.offer c)) := ⟨h.inbox, hlen, h.suspects⟩
  exact hqueue.cycleOnly (State.applyBlock_cycleOnly _ c)

theorem offerCopy (h : Backlog s) (f : Frame) : Backlog (s.offerCopy f) := by
  unfold State.offerCopy
  split
  · split
    case isTrue hroom => exact { h with exam := by simpa using hroom }
    · exact h.raise _
  · exact h

theorem routeU (h : Backlog s) (f : Frame) : Backlog (s.routeU f) := by
  unfold State.routeU State.routeDown State.routeSample
  simp only
  split
  · exact h.raise _
  · split
    · split
      · split
        · exact (h.offerCopy f).linksOnly (State.offerForward_linksOnly _ _)
        · exact h.offerCopy f
      · exact (h.raise _).linksOnly (State.offerForward_linksOnly _ _)
    · exact h.linksOnly (s.offerForward_linksOnly _)

theorem routeOwn (h : Backlog s) (f : Frame) : Backlog (s.routeOwn f) := by
  unfold State.routeOwn State.offerInbox
  split
  · split
    case isTrue hroom => exact { h with inbox := by simpa using hroom }
    · exact h.raise _
  · exact h.raise _

theorem routeD (h : Backlog s) (f : Frame) : Backlog (s.routeD f) := by
  unfold State.routeD State.routeUp State.routeMark
  split
  · exact h.raise _
  · split
    · exact h.routeOwn f
    · split
      · split
        · exact (h.cycleOnly (s.showMark_cycleOnly f)).linksOnly (State.offerUpward_linksOnly _ _)
        · exact (h.raise _).linksOnly (State.offerUpward_linksOnly _ _)
      · exact h.linksOnly (s.offerUpward_linksOnly _)

theorem receiveEnd (h : Backlog s) (p : Port) : Backlog (s.receiveEnd p) := by
  have hframing (x : Framing) : Backlog (s.setFraming p x) := h.linksOnly (s.setFraming_linksOnly p x)
  unfold State.receiveEnd
  split
  · exact h.raise _
  · simp only
    split
    · cases p
      · exact ((hframing _).linksOnly (State.podHears_linksOnly _ _)).routeU _
      · exact (hframing _).routeD _
    · exact (hframing _).raise _
  · exact hframing _

theorem commitMould (h : Backlog s) (slot : Fin 16) (m : MouldRecord) : Backlog (s.commitMould slot m) := by
  have hfilter : (s.suspects.filter fun e => e.slot != slot).length ≤ 32 := (List.length_filter_le _ _).trans h.suspects
  unfold State.commitMould
  simp only
  split <;> exact ⟨h.inbox, h.exam, hfilter⟩

theorem proceedLoad (h : Backlog s) (l : OpenLoad) : Backlog (proceedLoad l s).1 := by
  have hload (x : Option OpenLoad) : Backlog (s.setLoad x) := ⟨h.inbox, h.exam, h.suspects⟩
  unfold Machine.proceedLoad commitLoad
  simp only
  split
  · split
    · split
      · exact hload none
      · exact ⟨h.inbox, h.exam, h.suspects⟩
    · split
      · exact hload none
      · split
        · exact hload none
        · exact (hload none).commitMould _ _
  · exact hload _

/-- A request's own part never lengthens these queues (R163). -/
theorem asked {t : State} (h : Backlog s) (ht : Asked s t) : Backlog t := by
  cases ht with
  | same => exact h
  | started => exact ⟨h.inbox, h.exam, h.suspects⟩
  | halted =>
    rw [State.enterHalted_eq]
    exact ⟨h.inbox, Nat.zero_le _, h.suspects⟩
  | restarted =>
    unfold State.restarted State.restartBlocks
    rw [State.emptyQueues_eq]
    exact ⟨Nat.zero_le _, Nat.zero_le _, h.suspects⟩
  | proceeded l => exact h.proceedLoad l
  | released slot wp | relearned slot wp => exact ⟨h.inbox, h.exam, (List.length_filter_le _ _).trans h.suspects⟩
  | setup | bandSets | noChannels | aborted | confirmed | cleared | enabled | selected | frozen | unfrozen | untraced =>
    exact ⟨h.inbox, h.exam, h.suspects⟩

end Backlog

/-- Every effect keeps the inbox, the examination queue and the suspect list within their sizes. -/
theorem Effect.backlog {s u : State} (h : Effect s u) (hs : Backlog s) : Backlog u := by
  have arrives (p : Port) : Backlog (s.symbolArrives p) := hs.linksOnly (s.symbolArrives_linksOnly p)
  cases h with
  | reset cause pins => exact ⟨Nat.zero_le _, Nat.zero_le _, Nat.zero_le _⟩
  | startSymbol p => exact (arrives p).linksOnly (State.receiveStart_linksOnly _ p)
  | frame p data => exact ((arrives p).linksOnly (State.dataRun_linksOnly _ p data)).receiveEnd p
  | dataSymbol p b => exact (arrives p).linksOnly (State.receiveData_linksOnly _ p b)
  | overlength p _ => exact ((arrives p).raise _).linksOnly (State.setFraming_linksOnly _ p _)
  | strayByte p => exact (arrives p).raise _
  | symbol p => exact arrives p
  | violation p => exact hs.linksOnly (s.breakFrame_linksOnly p)
  | hold p => exact (arrives p).linksOnly (State.hold_linksOnly _ p)
  | go p => exact (arrives p).linksOnly (State.release_linksOnly _ p)
  | idle p => exact ((arrives p).linksOnly (State.breakFrame_linksOnly _ p)).linksOnly (State.release_linksOnly _ p)
  | lost p => exact hs.linksOnly (s.loseSignal_linksOnly p)
  | sentFrame p => exact hs.linksOnly (s.endFrame_linksOnly p)
  | stall => exact hs.linksOnly s.stallExpires_linksOnly
  | silence p _ =>
    exact ((hs.linksOnly (s.mapPods_linksOnly _)).cycleOnly (State.joinSilenced_cycleOnly (s.silence p) p)).raise _
  | cycle i => exact hs.cycleOnly (s.cycleExpires_cycleOnly i)
  | grace i => exact hs.cycleOnly (s.graceExpires_cycleOnly i)
  | judged j => exact hs.completeJudgement j
  | examined c rest he => exact hs.examine he
  | rawChange x => exact hs.cycleOnly (s.rawChanges_cycleOnly x)
  | debounced x => exact hs.cycleOnly (s.debounceExpires_cycleOnly x)
  | loadTimer => exact (⟨hs.inbox, hs.exam, hs.suspects⟩ : Backlog (s.setLoad none)).raise _
  | request r rest t a hi _ ht =>
    have hlen : rest.length ≤ 4 := by
      have := hs.inbox
      rw [hi] at this
      exact (Nat.le_succ _).trans this
    have hpopped : Backlog (s.popped rest) := ⟨hlen, hs.exam, hs.suspects⟩
    exact (hpopped.asked ht).linksOnly (State.placeOwn_linksOnly t _)

/-- Settles O54: the queues of frames by the decision points that end each effect (`Effect.traffic`), the others by the room that
each addition asks for (`Effect.backlog`). -/
theorem stepsKeepTheQueues : Obligations.StepsKeepTheQueues := by
  intro s t hidle hqueue hflow hstep
  obtain ⟨htraffic, hbacklog⟩ := (queues_iff s).mp ⟨hidle, hqueue, hflow⟩
  refine (queues_iff t).mpr ?_
  rcases step_cases hstep with rfl | ⟨rest, rfl | ⟨u, heff, rfl⟩⟩
  · exact ⟨htraffic.symbolBoundary, hbacklog.linksOnly s.symbolBoundary_linksOnly⟩
  · exact ⟨htraffic.congr rfl (.refl _) (.refl _), ⟨hbacklog.inbox, hbacklog.exam, hbacklog.suspects⟩⟩
  · have hbefore : TrafficLaw (s.setPending rest) := htraffic.congr rfl (.refl _) (.refl _)
    have hqueues : Backlog (s.setPending rest) := ⟨hbacklog.inbox, hbacklog.exam, hbacklog.suspects⟩
    exact ⟨(heff.traffic hbefore).settle _, (heff.backlog hqueues).linksOnly (State.settle_linksOnly u _)⟩

end Sys2Proof.Machine
end

section
/-! The records, the mould monitor and the carried slots (R2, R17, R29, R41 to R45, R63, R73). Their laws read one another, so
they are kept together; each is put in the form that speaks of one record and the other. -/

namespace Sys2Proof.Machine

/-- The law of the records, said of each record and the other. -/
structure Records (s : State) : Prop where
  oneOpen : ∀ i, (s.tracker.get i).isOpen = true → (s.tracker.get i.other).isOpen = false
  ok      : ∀ i, RecordOk (s.tracker.get i) (s.tracker.get i.other)
  halted  : s.engine.operating = .halted →
    ∀ i, (s.tracker.get i).state = .free ∨ (s.tracker.get i).state = .judging
  judging : ∀ i, (s.tracker.get i).state = .judging ↔ s.verdict.judging.map Judging.record = some i
  ready   : s.engine.operating = .watching → s.tables.setup.isSome = true ∧ s.tables.channels ≠ []

theorem recordLaw_iff (s : State) : RecordLaw s ↔ Records s := by
  constructor
  · rintro ⟨hopen, -, hoka, hokb, hhalt, hja, hjb, hready⟩
    refine ⟨?_, ?_, fun hh => ?_, ?_, hready⟩
    · rintro (_ | _) h
      · exact Bool.eq_false_iff.mpr fun hb => hopen ⟨h, hb⟩
      · exact Bool.eq_false_iff.mpr fun ha => hopen ⟨ha, h⟩
    · rintro (_ | _)
      · exact hoka
      · exact hokb
    · rintro (_ | _)
      · exact (hhalt hh).1
      · exact (hhalt hh).2
    · rintro (_ | _)
      · exact hja
      · exact hjb
  · rintro ⟨hopen, hok, hhalt, hj, hready⟩
    refine ⟨fun ⟨ha, hb⟩ => ?_, fun ⟨ha, hb⟩ => ?_, hok .a, hok .b, fun hh => ⟨hhalt hh .a, hhalt hh .b⟩, hj .a, hj .b, hready⟩
    · have hclosed : s.tracker.b.isOpen = false := hopen .a ha
      exact absurd hb (by simp [hclosed])
    · have := ((hj .a).mp ha).symm.trans ((hj .b).mp hb)
      simp at this

@[simp] theorem RecId.other_other (i : RecId) : i.other.other = i := by cases i <;> rfl

theorem RecId.ne_iff_eq_other {i k : RecId} : k ≠ i ↔ k = i.other := by
  cases i <;> cases k <;> simp [RecId.other]

/-- What is true of one record and of the other is true of both. -/
theorem RecId.forall_iff (i : RecId) (p : RecId → Prop) : (∀ k, p k) ↔ p i ∧ p i.other := by
  constructor
  · exact fun h => ⟨h i, h i.other⟩
  · rintro ⟨h, ho⟩ k
    by_cases hk : k = i
    · exact hk ▸ h
    · exact RecId.ne_iff_eq_other.mp hk ▸ ho

/-- A record and its slot as the carried laws read them, and the mould monitor. -/
structure CycleBase (s : State) : Prop where
  records : Records s
  monitor : MonitorLaw s
  carried : ∀ i, CarriedOk s (s.tracker.get i)

/-- The verdict unit's mould record is that of the judged record's slot (R73). -/
def JudgedLaw (s : State) : Prop :=
  ∀ j, s.verdict.judging = some j → ∃ slot, (s.tracker.get j.record).slot = some slot ∧ s.mould slot = some j.mould

/-- The laws of the records, the mould monitor and the carried slots together. -/
structure CycleLaw (s : State) : Prop extends CycleBase s where
  judged : JudgedLaw s

theorem cycleLaw_iff (s : State) : CycleLaw s ↔ RecordLaw s ∧ MonitorLaw s ∧ CarriedLaw s := by
  rw [recordLaw_iff]
  constructor
  · rintro ⟨⟨hr, hm, hc⟩, hj⟩
    exact ⟨hr, hm, hc .a, hc .b, hj⟩
  · rintro ⟨hr, hm, ha, hb, hj⟩
    exact ⟨⟨hr, hm, (RecId.forall_iff .a _).mpr ⟨ha, hb⟩⟩, hj⟩

/-! ### What the laws read -/

section
variable {s t : State}

theorem installed_congr (h : t.monitor.state = s.monitor.state) : t.installed = s.installed := by
  simp only [State.installed, h]

theorem CarriedOk.congr {r : CycleRecord} (h : CarriedOk s r) (hi : t.installed = s.installed) (hm : t.moulds = s.moulds) :
    CarriedOk t r := by
  intro slot hs
  obtain ⟨hopen, m, hmould, hpoints⟩ := h slot hs
  exact ⟨fun ho => hi.trans (hopen ho), m, by rw [State.mould, hm]; exact hmould, hpoints⟩

theorem MonitorLaw.congr (h : MonitorLaw s) (hm : t.monitor = s.monitor)
    (hd : ∀ slot, (s.mould slot).isSome = true → (t.mould slot).isSome = true) : MonitorLaw t := by
  obtain ⟨hcode, hclamp, hstate⟩ := h
  unfold MonitorLaw
  rw [hm]
  refine ⟨hcode, hclamp, ?_⟩
  cases hx : s.monitor.state with
  | none => rw [hx] at hstate; exact hstate
  | unconfirmed => rw [hx] at hstate; exact hstate
  | confirmed snap =>
    rw [hx] at hstate
    obtain ⟨h1, h2, h3, h4⟩ := hstate
    exact ⟨h1, h2, h3, hd _ h4⟩

theorem Records.congr (h : Records s) (ht : ∀ i, t.tracker.get i = s.tracker.get i)
    (ho : t.engine.operating = s.engine.operating)
    (hj : t.verdict.judging.map Judging.record = s.verdict.judging.map Judging.record)
    (hr : s.engine.operating = .watching → t.tables.setup.isSome = true ∧ t.tables.channels ≠ []) : Records t := by
  obtain ⟨h1, h2, h3, h4, -⟩ := h
  refine ⟨?_, ?_, ?_, ?_, ?_⟩
  · simpa only [ht] using h1
  · simpa only [ht] using h2
  · simpa only [ht, ho] using h3
  · simpa only [ht, hj] using h4
  · simpa only [ho] using hr

theorem CycleBase.congr (h : CycleBase s) (ht : ∀ i, t.tracker.get i = s.tracker.get i)
    (ho : t.engine.operating = s.engine.operating)
    (hj : t.verdict.judging.map Judging.record = s.verdict.judging.map Judging.record)
    (hr : s.engine.operating = .watching → t.tables.setup.isSome = true ∧ t.tables.channels ≠ [])
    (hm : t.monitor = s.monitor) (hd : t.moulds = s.moulds) : CycleBase t := by
  refine ⟨h.records.congr ht ho hj hr, h.monitor.congr hm fun slot hs => ?_, fun i => ?_⟩
  · rwa [State.mould, hd]
  · rw [ht]
    exact (h.carried i).congr (installed_congr (by rw [hm])) hd

theorem JudgedLaw.congr (h : JudgedLaw s) (ht : ∀ i, t.tracker.get i = s.tracker.get i)
    (hj : t.verdict.judging = s.verdict.judging) (hd : t.moulds = s.moulds) : JudgedLaw t := by
  intro j hjt
  rw [hj] at hjt
  obtain ⟨slot, hs, hm⟩ := h j hjt
  exact ⟨slot, by rw [ht]; exact hs, by rw [State.mould, hd]; exact hm⟩

theorem CycleLaw.congr (h : CycleLaw s) (ht : ∀ i, t.tracker.get i = s.tracker.get i)
    (ho : t.engine.operating = s.engine.operating) (hj : t.verdict.judging = s.verdict.judging)
    (hr : s.engine.operating = .watching → t.tables.setup.isSome = true ∧ t.tables.channels ≠ [])
    (hm : t.monitor = s.monitor) (hd : t.moulds = s.moulds) : CycleLaw t :=
  ⟨h.toCycleBase.congr ht ho (by rw [hj]) hr hm hd, h.judged.congr ht hj hd⟩

theorem CycleLaw.linksOnly (h : CycleLaw s) (hl : LinksOnly s t) : CycleLaw t :=
  h.congr (fun i => by rw [hl.tracker]) (by rw [hl.engine]) (by rw [hl.verdict]) (by rw [hl.tables]; exact h.records.ready)
    hl.monitor hl.moulds

theorem CycleLaw.raise (h : CycleLaw s) (c : Condition) : CycleLaw (s.raise c) := h.linksOnly (s.raise_linksOnly c)

end

/-! ### One record changes -/

section
variable {s : State}

theorem isOpen_of_state {r : CycleRecord} {p : Phase} (h : r.state = .opened p) : r.isOpen = true :=
  r.isOpen_iff.mpr ⟨p, h⟩

theorem not_isOpen_of_state {r : CycleRecord} (h : ∀ p, r.state ≠ .opened p) : r.isOpen = false :=
  Bool.eq_false_iff.mpr fun ho => let ⟨p, hp⟩ := r.isOpen_iff.mp ho; h p hp

/-- A record's law reads of the other one only whether it is JUDGING, and that in WAIT. -/
theorem RecordOk.of_not_wait {r o o' : CycleRecord} (h : RecordOk r o) (hw : r.state ≠ .wait) : RecordOk r o' := by
  obtain ⟨h1, h2, h3, h4, -, h6, h7, h8⟩ := h
  exact ⟨h1, h2, h3, h4, fun hwait => absurd hwait hw, h6, h7, h8⟩

theorem recordOk_freed (n : Option Half) (o : CycleRecord) : RecordOk (CycleRecord.freed n) o :=
  ⟨fun _ => rfl, fun h => absurd rfl h, rfl, by simp [CycleRecord.freed], nofun, nofun, fun _ => rfl, trivial⟩

theorem carriedOk_freed (n : Option Half) : CarriedOk s (CycleRecord.freed n) := nofun

/-- A record that is not JUDGING, before or after, may be replaced by one that meets the laws. -/
theorem CycleLaw.setRec (h : CycleLaw s) {i : RecId} {r : CycleRecord} (hbefore : (s.tracker.get i).state ≠ .judging)
    (hafter : r.state ≠ .judging) (hok : RecordOk r (s.tracker.get i.other))
    (hopen : r.isOpen = true → (s.tracker.get i.other).isOpen = false)
    (hhalted : s.engine.operating = .halted → r.state = .free) (hcarried : CarriedOk s r) : CycleLaw (s.setRec i r) := by
  have hget : (s.setRec i r).tracker.get i = r := Tracker.get_put _ _ _
  have hother : (s.setRec i r).tracker.get i.other = s.tracker.get i.other := Tracker.get_put_other _ _ _
  have hback : (s.setRec i r).tracker.get i.other.other = r := by rw [RecId.other_other, hget]
  obtain ⟨⟨hrecords, hmonitor, hcarry⟩, hjudged⟩ := h
  have hwait : (s.tracker.get i.other).state ≠ .wait := fun hw => by
    obtain ⟨-, -, -, -, hw', -⟩ := hrecords.ok i.other
    exact hbefore (by simpa using (hw' hw).1)
  have hverdict : (s.setRec i r).verdict = s.verdict := rfl
  refine ⟨⟨⟨?_, ?_, fun hh => ?_, ?_, hrecords.ready⟩, hmonitor, ?_⟩, ?_⟩
  · refine (RecId.forall_iff i _).mpr ⟨?_, ?_⟩
    · rw [hget, hother]; exact hopen
    · rw [hother, hback]
      exact fun ho => Bool.eq_false_iff.mpr fun hr => absurd (hopen hr) (by simp [ho])
  · refine (RecId.forall_iff i _).mpr ⟨?_, ?_⟩
    · rw [hget, hother]; exact hok
    · rw [hother]; exact (hrecords.ok i.other).of_not_wait hwait
  · refine (RecId.forall_iff i _).mpr ⟨?_, ?_⟩
    · rw [hget]; exact .inl (hhalted hh)
    · rw [hother]; exact hrecords.halted hh i.other
  · refine (RecId.forall_iff i _).mpr ⟨?_, ?_⟩
    · rw [hget, hverdict]
      exact ⟨fun hr => absurd hr hafter, fun hj => absurd ((hrecords.judging i).mpr hj) hbefore⟩
    · rw [hother, hverdict]; exact hrecords.judging i.other
  · refine (RecId.forall_iff i _).mpr ⟨?_, ?_⟩
    · rw [hget]; exact hcarried
    · rw [hother]; exact hcarry i.other
  · intro j hj
    obtain ⟨slot, hs, hm⟩ := hjudged j hj
    have hne : j.record ≠ i := fun he =>
      hbefore ((hrecords.judging i).mpr (by rw [show s.verdict.judging = some j from hj]; simp [he]))
    have hk : (s.setRec i r).tracker.get j.record = s.tracker.get j.record := by
      rw [RecId.ne_iff_eq_other.mp hne, hother]
    exact ⟨slot, by rw [hk]; exact hs, hm⟩

/-- An abandonment of a record that is not JUDGING (R15). -/
theorem CycleLaw.abandon (h : CycleLaw s) {i : RecId} (hi : (s.tracker.get i).state ≠ .judging) : CycleLaw (s.abandon i) :=
  h.setRec hi nofun (recordOk_freed _ _) nofun (fun _ => rfl) (carriedOk_freed _)

theorem state_ne_judging_of_isOpen {r : CycleRecord} (h : r.isOpen = true) : r.state ≠ .judging := by
  obtain ⟨p, hp⟩ := r.isOpen_iff.mp h
  rw [hp]
  exact nofun

/-- A record in motion is one of WATCHING: HALTED holds none but FREE and JUDGING (R18). -/
theorem Records.watching (h : Records s) {i : RecId} (hfree : (s.tracker.get i).state ≠ .free)
    (hjudging : (s.tracker.get i).state ≠ .judging) : s.engine.operating = .watching := by
  cases hop : s.engine.operating with
  | watching => rfl
  | halted => exact ((h.halted hop i).elim (absurd · hfree) (absurd · hjudging))

/-- A change of a record in motion that keeps its state, its numbers and its watch points. -/
theorem CycleLaw.setRec_same (h : CycleLaw s) {i : RecId} {r : CycleRecord} (hstate : r.state = (s.tracker.get i).state)
    (hfree : r.state ≠ .free) (hjudging : r.state ≠ .judging) (hnumber : r.number = (s.tracker.get i).number)
    (hslot : r.slot = (s.tracker.get i).slot) (hentered : r.entered = (s.tracker.get i).entered)
    (hcycle : r.cycleTimer = (s.tracker.get i).cycleTimer) (hgrace : r.graceTimer = (s.tracker.get i).graceTimer)
    (hpoints : r.accs.map Accumulator.watchPoint = (s.tracker.get i).accs.map Accumulator.watchPoint) :
    CycleLaw (s.setRec i r) := by
  have hisOpen : r.isOpen = (s.tracker.get i).isOpen := by simp only [CycleRecord.isOpen, hstate]
  obtain ⟨-, h2, h3, h4, h5, -, h7, h8⟩ := h.records.ok i
  refine h.setRec (hstate ▸ hjudging) hjudging ⟨fun hf => absurd hf hfree, ?_, ?_, ?_, ?_, fun hj => absurd hj hjudging, ?_, ?_⟩
    ?_ (fun hh => ?_) ?_
  · rw [hstate, hnumber]; exact h2
  · rw [hcycle, hisOpen]; exact h3
  · rw [hgrace, hstate]; exact h4
  · rw [hstate, hslot]; exact h5
  · rw [hslot]
    intro hs
    have : (s.tracker.get i).accs.map Accumulator.watchPoint = [] := by rw [h7 hs]; rfl
    rw [← hpoints] at this
    exact List.map_eq_nil_iff.mp this
  · rw [hstate, hentered]; exact h8
  · rw [hisOpen]; exact h.records.oneOpen i
  · rw [hstate] at hfree hjudging
    exact absurd ((h.records.watching hfree hjudging).symm.trans hh) (by simp)
  · intro slot hs
    obtain ⟨hinst, m, hm, hps⟩ := h.carried i slot (hslot ▸ hs)
    exact ⟨fun ho => hinst (hisOpen ▸ ho), m, hm, hpoints.trans hps⟩

end

end Sys2Proof.Machine
end

section
/-! The Marks and the records' timers keep the laws of the records (R5 to R15). -/

namespace Sys2Proof.Machine

variable {s t : State}

/-! ### A judgement starts -/

/-- A record with a LOADED slot enters JUDGING, the other being neither JUDGING nor waiting for it: the laws hold of what is left
(R72, R73). -/
theorem CycleLaw.judge {i : RecId} {r : CycleRecord} {slot : Fin 16} {m : MouldRecord} (hmonitor : MonitorLaw t)
    (hwatching : t.engine.operating = .watching → t.tables.setup.isSome = true ∧ t.tables.channels ≠ [])
    (hrec : t.tracker.get i = { r with state := .judging, graceTimer := none })
    (hverdict : t.verdict.judging = some ⟨i, m⟩) (hslot : r.slot = some slot) (hm : t.mould slot = some m)
    (hnumber : r.number.isSome = true) (hcycle : r.cycleTimer = none)
    (hpoints : r.accs.map Accumulator.watchPoint = m.profiles.map Profile.watchPoint)
    (hother : RecordOk (t.tracker.get i.other) (t.tracker.get i)) (hcarried : CarriedOk t (t.tracker.get i.other))
    (hjudging : (t.tracker.get i.other).state ≠ .judging)
    (hhalted : t.engine.operating = .halted → (t.tracker.get i.other).state = .free) : CycleLaw t := by
  have hmine : (t.tracker.get i).state = .judging := by rw [hrec]
  refine ⟨⟨⟨?_, ?_, fun hh => ?_, ?_, hwatching⟩, hmonitor, ?_⟩, ?_⟩
  · have hclosed : (t.tracker.get i).isOpen = false := not_isOpen_of_state (by rw [hmine]; exact nofun)
    refine (RecId.forall_iff i _).mpr ⟨fun ho => absurd ho (by simp [hclosed]), fun _ => ?_⟩
    rw [RecId.other_other]; exact hclosed
  · refine (RecId.forall_iff i _).mpr ⟨?_, ?_⟩
    · rw [hrec]
      refine ⟨nofun, fun _ => hnumber, ?_, ⟨nofun, nofun⟩, nofun, fun _ => by simp [hslot], fun h => ?_, trivial⟩
      · simp [hcycle, CycleRecord.isOpen]
      · exact absurd (hslot.symm.trans h) (by simp)
    · rw [RecId.other_other]; exact hother
  · exact (RecId.forall_iff i _).mpr ⟨.inr hmine, .inl (hhalted hh)⟩
  · refine (RecId.forall_iff i _).mpr ⟨⟨fun _ => by rw [hverdict]; rfl, fun _ => hmine⟩, fun h => absurd h hjudging, fun h => ?_⟩
    rw [hverdict] at h
    cases i <;> simp [RecId.other] at h
  · refine (RecId.forall_iff i _).mpr ⟨?_, hcarried⟩
    rw [hrec]
    intro sl hs
    obtain rfl : slot = sl := Option.some.inj (hslot.symm.trans hs)
    exact ⟨fun ho => absurd ho (by simp [CycleRecord.isOpen]), m, hm, hpoints⟩
  · intro j hj
    obtain rfl := Option.some.inj (hverdict.symm.trans hj)
    exact ⟨slot, by simp only [hrec, hslot], hm⟩

/-- The mould record that a judgement starts with (R73). -/
theorem State.startJudgement_eq {i : RecId} {slot : Fin 16} {m : MouldRecord} (hslot : (s.tracker.get i).slot = some slot)
    (hm : s.mould slot = some m) :
    s.startJudgement i =
      { s with
        tracker := s.tracker.put i { s.tracker.get i with state := .judging, graceTimer := none }
        verdict := { s.verdict with judging := some ⟨i, m⟩ } } := by
  simp [startJudgement, setRec, setTracker, setVerdict, hslot, hm]

namespace CycleLaw

/-- A record in GRACE goes to judgement when the other is not JUDGING (R13, R72). -/
theorem startJudgement (h : CycleLaw s) {i : RecId} (hstate : (s.tracker.get i).state = .grace)
    (hother : (s.tracker.get i.other).state ≠ .judging) {slot : Fin 16} (hslot : (s.tracker.get i).slot = some slot) :
    CycleLaw (s.startJudgement i) := by
  obtain ⟨-, m, hm, hpoints⟩ := h.carried i slot hslot
  obtain ⟨-, hnumber, hcycle, -⟩ := h.records.ok i
  rw [State.startJudgement_eq hslot hm]
  have hop : s.engine.operating = .watching := h.records.watching (i := i) (by simp [hstate]) (by simp [hstate])
  have hwait : (s.tracker.get i.other).state ≠ .wait := fun hw => by
    obtain ⟨-, -, -, -, hw', -⟩ := h.records.ok i.other
    exact absurd (hw' hw).1 (by simp [hstate])
  have hget := Tracker.get_put_other s.tracker i { s.tracker.get i with state := .judging, graceTimer := none }
  refine judge (r := s.tracker.get i) (slot := slot) (m := m) h.monitor h.records.ready (Tracker.get_put _ _ _) rfl hslot hm
    (hnumber (by simp [hstate])) ?_ hpoints ?_ ?_ ?_ fun hh => absurd (hop.symm.trans hh) (by simp)
  · simpa [CycleRecord.isOpen, hstate] using hcycle
  · simp only [hget]; exact (h.records.ok i.other).of_not_wait hwait
  · simp only [hget]; exact h.carried i.other
  · simp only [hget]; exact hother

/-! ### GRACE and CLOSE -/

/-- The table of R13. -/
theorem graceExpires (h : CycleLaw s) {i : RecId} (hstate : (s.tracker.get i).state = .grace) :
    CycleLaw (s.graceExpires i) := by
  have hnot : (s.tracker.get i).state ≠ .judging := by simp [hstate]
  unfold State.graceExpires
  simp only
  split
  · exact h.abandon hnot
  case isFalse hslot =>
    obtain ⟨slot, hslot⟩ : ∃ slot, (s.tracker.get i).slot = some slot :=
      Option.ne_none_iff_exists'.mp fun hnone => hslot (by simp [hnone])
    split
    case isTrue hother =>
      obtain ⟨-, hnumber, hcycle, -, -, -, -, -⟩ := h.records.ok i
      have hop := h.records.watching (i := i) (by simp [hstate]) hnot
      refine h.setRec hnot (by simp) ⟨nofun, fun _ => hnumber (by simp [hstate]), ?_, ⟨nofun, nofun⟩, fun _ => ⟨hother, ?_⟩,
        nofun, fun hs => ?_, trivial⟩ nofun (fun hh => absurd (hop.symm.trans hh) (by simp)) fun sl hs => ?_
      · simpa [CycleRecord.isOpen, hstate] using hcycle
      · simp [hslot]
      · exact absurd (hslot.symm.trans hs) (by simp)
      · obtain ⟨-, hm⟩ := h.carried i sl hs
        exact ⟨nofun, hm⟩
    case isFalse hother => exact h.startJudgement hstate hother hslot

/-- A legal CLOSE: GRACE, and the table of R13 in the same step for a close grace of 0 (R8). -/
theorem closeRec (h : CycleLaw s) {i : RecId} (hstate : (s.tracker.get i).state = .opened .settle) :
    CycleLaw (s.closeRec i) := by
  obtain ⟨-, hnumber, -, -, -, -, hslot, hentered⟩ := h.records.ok i
  rw [hstate] at hentered
  have hop := h.records.watching (i := i) (by simp [hstate]) (by simp [hstate])
  have hgrace (n : Nat) : CycleLaw (s.setRec i
      { s.tracker.get i with state := .grace, cycleTimer := none, graceTimer := some n }) := by
    refine h.setRec (by simp [hstate]) (by simp) ⟨nofun, fun _ => hnumber (by simp [hstate]), rfl, ⟨fun _ => rfl, fun _ => rfl⟩,
      nofun, nofun, hslot, hentered⟩ nofun (fun hh => absurd (hop.symm.trans hh) (by simp)) fun sl hs => ?_
    obtain ⟨-, hm⟩ := h.carried i sl hs
    exact ⟨nofun, hm⟩
  unfold State.closeRec
  simp only
  generalize (s.tables.setup.map Setup.closeGrace).getD 0 = n
  have hclosed : CycleLaw ((s.setRec i { s.tracker.get i with state := .grace, cycleTimer := none, graceTimer := some n }).setTracker
      { (s.setRec i { s.tracker.get i with state := .grace, cycleTimer := none, graceTimer := some n }).tracker with
        lastClosed := some i }) :=
    (hgrace n).congr (fun k => by cases k <;> rfl) rfl rfl (hgrace n).records.ready rfl rfl
  split
  · exact hclosed.graceExpires (by cases i <;> rfl)
  · exact hclosed

theorem illegalMark (h : CycleLaw s) {i : RecId} (hi : (s.tracker.get i).isOpen = true) : CycleLaw (s.illegalMark i) :=
  (h.abandon (state_ne_judging_of_isOpen hi)).raise _

end CycleLaw

/-! ### Phases -/

/-- A phase Mark's new phase has been entered with all that come before it (R3, R7). -/
theorem enteredFor_phaseAfter {kind : MarkKind} {old new : Phase} {e : PhasesEntered} (h : EnteredFor (.opened old) e)
    (hnew : phaseAfter kind old = some new) : EnteredFor (.opened new) (e.add new) := by
  cases kind <;> cases old <;> simp only [phaseAfter, Option.some.injEq, reduceCtorEq] at hnew <;> subst hnew <;>
    simp_all [EnteredFor, PhasesEntered.add]

@[simp] theorem Accumulator.revibrate_watchPoint (x : Accumulator) : x.revibrate.watchPoint = x.watchPoint := rfl

namespace CycleLaw

theorem enterPhase (h : CycleLaw s) {i : RecId} {kind : MarkKind} {old new : Phase}
    (hstate : (s.tracker.get i).state = .opened old) (hnew : phaseAfter kind old = some new) :
    CycleLaw (s.enterPhase i old new) := by
  have hisOpen := isOpen_of_state hstate
  obtain ⟨-, hnumber, hcycle, hgrace, -, -, hslot, hentered⟩ := h.records.ok i
  have hop := h.records.watching (i := i) (by simp [hstate]) (by simp [hstate])
  have hpoints : (if old = .ring ∧ new = .vibe then (s.tracker.get i).accs.map Accumulator.revibrate
      else (s.tracker.get i).accs).map Accumulator.watchPoint = (s.tracker.get i).accs.map Accumulator.watchPoint := by
    split <;> simp [Function.comp_def]
  have hnograce : (s.tracker.get i).graceTimer = none := by
    simpa [hstate] using hgrace
  refine h.setRec (by simp [hstate]) nofun ⟨nofun, fun _ => hnumber (by simp [hstate]), ?_, ?_, nofun, nofun, fun hs => ?_, ?_⟩
    (fun _ => h.records.oneOpen i hisOpen) (fun hh => absurd (hop.symm.trans hh) (by simp)) fun sl hs => ?_
  · exact hcycle.trans hisOpen
  · simp [hnograce]
  · have hnone : (s.tracker.get i).accs = [] := hslot hs
    simp [hnone]
  · rw [hstate] at hentered
    exact enteredFor_phaseAfter hentered hnew
  · obtain ⟨hinst, m, hm, hps⟩ := h.carried i sl hs
    exact ⟨fun _ => hinst hisOpen, m, hm, hpoints.trans hps⟩

/-- A Mark that matches an OPEN record (R7 to R10). -/
theorem takeMatched (h : CycleLaw s) (kind : MarkKind) {i : RecId} {phase : Phase}
    (hstate : (s.tracker.get i).state = .opened phase) : CycleLaw (s.takeMatched kind i phase) := by
  have hisOpen := isOpen_of_state hstate
  unfold State.takeMatched
  split
  · exact h.abandon (state_ne_judging_of_isOpen hisOpen)
  · split
    case isTrue hsettle => exact h.closeRec (hsettle ▸ hstate)
    · exact h.illegalMark hisOpen
  · split
    case h_1 new hnew => exact h.enterPhase hstate hnew
    · exact h.illegalMark hisOpen

end CycleLaw

/-! ### OPEN -/

theorem Tracker.openRec_eq_some {t : Tracker} {i : RecId} (h : t.openRec = some i) : (t.get i).isOpen = true := by
  unfold openRec at h
  split at h
  case isTrue ha => cases h; exact ha
  · split at h
    case isTrue hb => cases h; exact hb
    · cases h

theorem Tracker.openRec_eq_none {t : Tracker} (h : t.openRec = none) (i : RecId) : (t.get i).isOpen = false := by
  unfold openRec at h
  split at h
  · cases h
  case isFalse ha =>
    split at h
    · cases h
    case isFalse hb =>
      cases i
      · exact Bool.eq_false_iff.mpr ha
      · exact Bool.eq_false_iff.mpr hb

theorem Tracker.freeRec_eq_some {t : Tracker} {i : RecId} (h : t.freeRec = some i) : (t.get i).state = .free := by
  unfold freeRec at h
  split at h
  case isTrue ha => cases h; exact ha
  · split at h
    case isTrue hb => cases h; exact hb
    · cases h

namespace CycleLaw

/-- The abandonment of an OPEN leaves no record OPEN (R6). -/
theorem abandonOpen (h : CycleLaw s) : CycleLaw s.abandonOpen ∧ ∀ i, (s.abandonOpen.tracker.get i).isOpen = false := by
  unfold State.abandonOpen
  split
  case h_1 i hi =>
    have hisOpen := Tracker.openRec_eq_some hi
    refine ⟨(h.abandon (state_ne_judging_of_isOpen hisOpen)).raise _, (RecId.forall_iff i _).mpr ⟨?_, ?_⟩⟩
    · exact congrArg CycleRecord.isOpen (Tracker.get_put s.tracker i _)
    · exact (congrArg CycleRecord.isOpen (Tracker.get_put_other s.tracker i _)).trans (h.records.oneOpen i hisOpen)
  case h_2 hi => exact ⟨h, Tracker.openRec_eq_none hi⟩

/-- A mould state other than the one before: the laws hold where no OPEN record loses its installed slot (R17). -/
theorem setMonitor (h : CycleLaw s) {m : Monitor} (hm : MonitorLaw (s.setMonitor m))
    (hinst : ∀ i slot, (s.tracker.get i).isOpen = true → (s.tracker.get i).slot = some slot →
      (s.setMonitor m).installed = some slot) : CycleLaw (s.setMonitor m) := by
  refine ⟨⟨h.records.congr (fun _ => rfl) rfl rfl h.records.ready, hm, fun i => ?_⟩,
    h.judged.congr (fun _ => rfl) rfl rfl⟩
  intro slot hs
  obtain ⟨-, hmould⟩ := h.carried i slot hs
  exact ⟨fun ho => hinst i slot ho hs, hmould⟩

/-- A confirmation of the mould that the debounced inputs name (R5, R51). -/
theorem confirm (h : CycleLaw s) {code : Fin 16} (hclamp : s.monitor.clamp.debounced = some true)
    (hcode : s.monitor.code.debounced = some code) (hm : (s.mould code).isSome = true) :
    CycleLaw (s.setMouldState (.confirmed ⟨code, true⟩)) := by
  obtain ⟨hdcode, hdclamp, hstate⟩ := h.monitor
  refine h.setMonitor ⟨hdcode, hdclamp, rfl, hclamp, hcode, hm⟩ fun i slot ho hs => ?_
  obtain ⟨hinst, -⟩ := h.carried i slot hs
  have hinstalled := hinst ho
  unfold State.installed at hinstalled
  split at hinstalled
  case h_1 snap hsnap =>
    rw [hsnap] at hstate
    obtain ⟨-, -, hsame, -⟩ := hstate
    have : code = snap.code := Option.some.inj (hcode.symm.trans hsame)
    rw [← hinstalled, ← this]
    rfl
  · cases hinstalled
  · cases hinstalled

theorem autoConfirm (h : CycleLaw s) : CycleLaw s.autoConfirm ∧ s.autoConfirm.tracker = s.tracker := by
  obtain ⟨m, heq, hyes, hno⟩ := s.autoConfirm_spec
  refine ⟨?_, by rw [heq]⟩
  by_cases hconf : ∃ code clamp, s.AutoConfirms code clamp
  · obtain ⟨code, clamp, hconf⟩ := hconf
    rw [heq, hyes code clamp hconf]
    obtain ⟨hstate, hcode, hclamp, -, mould, hm, -⟩ := hconf
    obtain ⟨-, -, hlaw⟩ := h.monitor
    rw [hstate] at hlaw
    obtain rfl : clamp = true := Option.some.inj (hclamp.symm.trans hlaw.1)
    exact h.confirm hclamp hcode (by simp [hm])
  · push Not at hconf
    rw [heq, hno hconf]
    exact h

end CycleLaw

/-- The accumulators of a record that opens are those of its mould's profiles (R29). -/
theorem freshAccs_points {slot : Fin 16} {m : MouldRecord} (hm : s.mould slot = some m) :
    (s.freshAccs (some slot)).map Accumulator.watchPoint = m.profiles.map Profile.watchPoint := by
  simp [State.freshAccs, hm, State.freshAcc, Function.comp_def]

theorem MonitorLaw.installed_loaded (h : MonitorLaw s) {slot : Fin 16} (hs : s.installed = some slot) :
    ∃ m, s.mould slot = some m := by
  obtain ⟨-, -, hstate⟩ := h
  unfold State.installed at hs
  split at hs
  case h_1 snap hsnap =>
    rw [hsnap] at hstate
    obtain ⟨-, -, -, hm⟩ := hstate
    rw [← Option.some.inj hs]
    exact Option.isSome_iff_exists.mp hm
  · cases hs
  · cases hs

namespace CycleLaw

/-- A FREE record opens where no record is OPEN, in WATCHING (R6). -/
theorem openRecord (h : CycleLaw s) {i : RecId} (hfree : (s.tracker.get i).state = .free)
    (hnone : ∀ k, (s.tracker.get k).isOpen = false) (hop : s.engine.operating = .watching) (number : Half) :
    CycleLaw (s.openRecord i number) := by
  obtain ⟨hsetup, -⟩ := h.records.ready hop
  have hopened : CycleLaw (s.setRec i (s.openedRecord number)) := by
    refine h.setRec (by simp [hfree]) nofun ⟨nofun, fun _ => rfl, ?_, ⟨nofun, nofun⟩, nofun, nofun, fun hs => ?_, trivial⟩
      (fun _ => hnone _) (fun hh => absurd (hop.symm.trans hh) (by simp)) fun slot hs => ?_
    · simpa [State.openedRecord, CycleRecord.isOpen] using hsetup
    · have hinst : s.installed = none := hs
      simp [State.openedRecord, State.freshAccs, hinst]
    · have hinst : s.installed = some slot := hs
      obtain ⟨m, hm⟩ := h.monitor.installed_loaded hinst
      refine ⟨fun _ => hinst, m, hm, ?_⟩
      simp only [State.openedRecord, hinst]
      exact freshAccs_points hm
  exact hopened.congr (fun k => by cases i <;> cases k <;> rfl) rfl rfl hopened.records.ready rfl rfl

theorem placeCycle (h : CycleLaw s) (hnone : ∀ k, (s.tracker.get k).isOpen = false) (hop : s.engine.operating = .watching)
    (number : Half) : CycleLaw (s.placeCycle number) := by
  unfold State.placeCycle
  split
  case h_1 i hi => exact h.openRecord (Tracker.freeRec_eq_some hi) hnone hop number
  · have huntracked : CycleLaw (s.setTracker { s.tracker with untracked := some number }) :=
      h.congr (fun k => by cases k <;> rfl) rfl rfl h.records.ready rfl rfl
    exact huntracked.raise _

theorem takeOpening (h : CycleLaw s) (hop : s.engine.operating = .watching) (number : Half) :
    CycleLaw (s.takeOpening number) := by
  obtain ⟨hleft, hnone⟩ := h.abandonOpen
  obtain ⟨hconf, htracker⟩ := hleft.autoConfirm
  have hop' : s.abandonOpen.autoConfirm.engine.operating = .watching := by
    rw [((s.abandonOpen_cycleOnly).trans (State.autoConfirm_cycleOnly _)).engine]
    exact hop
  have hplaced := hconf.placeCycle (by rw [htracker]; exact hnone) hop' number
  exact hplaced.congr (fun k => by cases k <;> rfl) rfl rfl hplaced.records.ready rfl rfl

end CycleLaw

/-- A Mark matches none but an OPEN record, in the phase it is in (R4). -/
theorem matching_state {number : Half} {i : RecId} {phase : Phase} (h : s.matching number = some (i, phase)) :
    (s.tracker.get i).state = .opened phase := by
  unfold State.matching at h
  split at h
  case h_1 p q ha hb =>
    split at h
    · cases h; exact ha
    · split at h
      · cases h; exact hb
      · cases h
  case h_2 p ha _ =>
    split at h
    · cases h; exact ha
    · cases h
  case h_3 q hb _ =>
    split at h
    · cases h; exact hb
    · cases h
  · cases h

namespace CycleLaw

/-- A Mark taken in WATCHING keeps the laws (R1, R4). -/
theorem takeMark (h : CycleLaw s) (hop : s.engine.operating = .watching) (kind : MarkKind) (number : Half) :
    CycleLaw (s.takeMark kind number) := by
  unfold State.takeMark
  split
  · exact h.takeOpening hop number
  · split
    case h_1 i phase hmatch => exact h.takeMatched kind (matching_state hmatch)
    · exact h.linksOnly (s.raiseIf_linksOnly _ _)

theorem showMark (h : CycleLaw s) (f : Frame) : CycleLaw (s.showMark f) := by
  unfold State.showMark
  split
  case h_1 hw _ => exact h.takeMark (State.watching_eq_true.mp hw) _ _
  · exact h

/-! ### Timers, pods and blocks -/

theorem joinSilenced (h : CycleLaw s) (p : PodId) : CycleLaw (s.joinSilenced p) := by
  unfold State.joinSilenced
  split
  · exact h
  · simp only
    split
    case h_1 phase hstate =>
      split
      · exact h.setRec_same rfl (by simp [hstate]) (by simp [hstate]) rfl rfl rfl rfl rfl rfl
      · exact h
    · exact h

end CycleLaw

/-- The record a block is attributed to: the one that takes it, if one alone does (R28). -/
def Tracker.attributed (t : Tracker) (c : Copy) : Option RecId :=
  match t.a.takes c, t.b.takes c with
  | true, false => some .a
  | false, true => some .b
  | _, _ => none

/-- A block goes to the record it is attributed to (R28). -/
theorem State.applyBlock_eq (s : State) (c : Copy) :
    s.applyBlock c =
      match s.tracker.attributed c, s.tables.channels[c.entry]? with
      | some i, some e => s.setRec i ((s.tracker.get i).block e s.tables.bandSets[e.bandSet] c)
      | _, _ => s := rfl

/-- A block is attributed to a record that is OPEN or in GRACE (R28). -/
theorem attributed_state {tr : Tracker} {c : Copy} {i : RecId} (h : tr.attributed c = some i) :
    (tr.get i).state ≠ .free ∧ (tr.get i).state ≠ .judging := by
  have htakes (r : CycleRecord) (hr : r.takes c = true) : r.state ≠ .free ∧ r.state ≠ .judging := by
    unfold CycleRecord.takes at hr
    rcases hs : r.state with _ | _ | _ | _ | _ <;> simp [hs] at hr ⊢
  unfold Tracker.attributed at h
  split at h
  case h_1 ha _ => cases h; exact htakes _ ha
  case h_2 _ hb => cases h; exact htakes _ hb
  · cases h

theorem Accumulator.block_watchPoint (x : Accumulator) (e : ChannelEntry) (bands : Option BandSet) (c : Copy) :
    (x.block e bands c).watchPoint = x.watchPoint := by
  unfold block
  split <;> rfl

/-- A block changes accumulators of its record, and no watch point of them (R28). -/
theorem CycleRecord.block_frame (r : CycleRecord) (e : ChannelEntry) (bands : Option BandSet) (c : Copy) :
    ∃ accs, r.block e bands c = { r with accs := accs } ∧
      accs.map Accumulator.watchPoint = r.accs.map Accumulator.watchPoint := by
  unfold block
  split
  · exact ⟨r.accs, rfl, rfl⟩
  · refine ⟨_, rfl, ?_⟩
    rw [List.map_map]
    refine List.map_congr_left fun x _ => ?_
    simp only [Function.comp_apply]
    split
    · exact x.block_watchPoint e bands c
    · rfl

namespace CycleLaw

theorem applyBlock (h : CycleLaw s) (c : Copy) : CycleLaw (s.applyBlock c) := by
  rw [State.applyBlock_eq]
  split
  case h_1 i e hi _ =>
    obtain ⟨hfree, hjudging⟩ := attributed_state hi
    obtain ⟨accs, heq, hpoints⟩ := (s.tracker.get i).block_frame e s.tables.bandSets[e.bandSet] c
    rw [heq]
    exact h.setRec_same rfl hfree hjudging rfl rfl rfl rfl rfl hpoints
  · exact h

theorem examine (h : CycleLaw s) (c : Copy) (rest : List Copy) : CycleLaw (s.examine c rest) := by
  have hqueue : CycleLaw ((s.setExam rest).setTrace (s.trace.offer c)) :=
    h.congr (fun _ => rfl) rfl rfl h.records.ready rfl rfl
  exact hqueue.applyBlock c

end CycleLaw

end Sys2Proof.Machine
end

section
/-! The debouncers, the mould state and the end of a judgement keep the laws of the records and the monitor (R42, R45, R46, R81). -/

namespace Sys2Proof.Machine

/-! ### The debouncers -/

section
variable {α : Type} {d : Debouncer α}

theorem debounceOk_rawChange [DecidableEq α] (d : Debouncer α) (raw : α) : DebounceOk (d.rawChange raw) := by
  unfold Debouncer.rawChange
  split
  case isTrue hsame => exact ⟨rfl, hsame⟩
  case isFalse hne => exact ⟨rfl, rfl, hne⟩

theorem rawChange_debounced [DecidableEq α] (d : Debouncer α) (raw : α) : (d.rawChange raw).debounced = d.debounced := by
  unfold Debouncer.rawChange
  split <;> rfl

/-- A period that ends leaves the raw value as the debounced one, which it was not before (R42). -/
theorem DebounceOk.expire (h : DebounceOk d) (hb : d.busy = true) :
    DebounceOk d.expire ∧ d.expire.debounced = some d.raw ∧ d.debounced ≠ some d.raw := by
  obtain ⟨raw, debounced, candidate, timer⟩ := d
  cases candidate with
  | none => cases hb
  | some c =>
    obtain ⟨-, rfl, hne⟩ := h
    exact ⟨⟨rfl, rfl⟩, rfl, hne⟩

end

variable {s t : State}

/-- The law of the monitor, said of each mould state. -/
structure MonitorOk (s : State) : Prop where
  code        : DebounceOk s.monitor.code
  clamp       : DebounceOk s.monitor.clamp
  none        : s.monitor.state = .none → s.monitor.clamp.debounced ≠ some true ∨ s.monitor.code.debounced = none
  unconfirmed : s.monitor.state = .unconfirmed →
    s.monitor.clamp.debounced = some true ∧ s.monitor.code.debounced.isSome = true
  confirmed   : ∀ snap, s.monitor.state = .confirmed snap →
    snap.clamp = true ∧ s.monitor.clamp.debounced = some true ∧ s.monitor.code.debounced = some snap.code ∧
      (s.mould snap.code).isSome = true

theorem monitorLaw_iff (s : State) : MonitorLaw s ↔ MonitorOk s := by
  unfold MonitorLaw
  constructor
  · rintro ⟨hcode, hclamp, hstate⟩
    refine ⟨hcode, hclamp, fun hs => ?_, fun hs => ?_, fun snap hs => ?_⟩ <;> rwa [hs] at hstate
  · rintro ⟨hcode, hclamp, hnone, hun, hconf⟩
    refine ⟨hcode, hclamp, ?_⟩
    cases hs : s.monitor.state with
    | none => exact hnone hs
    | unconfirmed => exact hun hs
    | confirmed snap => exact hconf snap hs

namespace CycleLaw

/-- A mould state that follows where no OPEN record carries a slot. -/
theorem setMonitor_of_unmoulded (h : CycleLaw s) {m : Monitor} (hm : MonitorLaw (s.setMonitor m))
    (hnone : ∀ i slot, (s.tracker.get i).isOpen = true → (s.tracker.get i).slot ≠ some slot) : CycleLaw (s.setMonitor m) :=
  h.setMonitor hm fun i slot ho hs => absurd hs (hnone i slot ho)

/-- With no mould installed no OPEN record carries a slot (R17). -/
theorem unmoulded (h : CycleLaw s) (hi : s.installed = none) (i : RecId) (slot : Fin 16)
    (ho : (s.tracker.get i).isOpen = true) : (s.tracker.get i).slot ≠ some slot := fun hs => by
  obtain ⟨hinst, -⟩ := h.carried i slot hs
  exact absurd ((hinst ho).symm.trans hi) (by simp)

theorem rawChanges (h : CycleLaw s) (x : RawInput) : CycleLaw (s.rawChanges x) := by
  obtain ⟨hcode, hclamp, hnone, hun, hconf⟩ := (monitorLaw_iff s).mp h.monitor
  have hinst (m : Monitor) (hm : m.state = s.monitor.state) (i : RecId) (slot : Fin 16)
      (ho : (s.tracker.get i).isOpen = true) (hs : (s.tracker.get i).slot = some slot) :
      (s.setMonitor m).installed = some slot := by
    obtain ⟨hi, -⟩ := h.carried i slot hs
    rw [installed_congr (s := s) hm]
    exact hi ho
  cases x with
  | code x =>
    have hkept := rawChange_debounced s.monitor.code x
    refine h.setMonitor ((monitorLaw_iff _).mpr ⟨debounceOk_rawChange _ x, hclamp, ?_, ?_, ?_⟩) (hinst _ rfl)
    all_goals simp only [State.setMonitor_monitor, hkept]
    exacts [hnone, hun, hconf]
  | clamp x =>
    have hkept := rawChange_debounced s.monitor.clamp x
    refine h.setMonitor ((monitorLaw_iff _).mpr ⟨hcode, debounceOk_rawChange _ x, ?_, ?_, ?_⟩) (hinst _ rfl)
    all_goals simp only [State.setMonitor_monitor, hkept]
    exacts [hnone, hun, hconf]

/-- The abandonment of a moulded OPEN record leaves none (R17). -/
theorem abandonMoulded (h : CycleLaw s) : CycleLaw s.abandonMoulded ∧ ∀ i slot, (s.abandonMoulded.tracker.get i).isOpen = true →
    (s.abandonMoulded.tracker.get i).slot ≠ some slot := by
  unfold State.abandonMoulded
  split
  case h_1 i hi =>
    have hisOpen := Tracker.openRec_eq_some hi
    have hclosed := h.records.oneOpen i hisOpen
    split
    case isTrue hslot =>
      refine ⟨h.abandon (state_ne_judging_of_isOpen hisOpen), (RecId.forall_iff i _).mpr ⟨fun slot ho => ?_, fun slot ho => ?_⟩⟩
      · rw [show (s.abandon i).tracker.get i = _ from Tracker.get_put _ _ _] at ho
        cases ho
      · rw [show (s.abandon i).tracker.get i.other = _ from Tracker.get_put_other _ _ _] at ho
        exact absurd ho (by simp [hclosed])
    case isFalse hslot =>
      refine ⟨h, (RecId.forall_iff i _).mpr ⟨fun slot _ hs => hslot (by simp [hs]), fun slot ho => ?_⟩⟩
      exact absurd ho (by simp [hclosed])
  case h_2 hi => exact ⟨h, fun i slot ho => absurd ho (by simp [Tracker.openRec_eq_none hi i])⟩

end CycleLaw

theorem abandonMoulded_setMonitor (s : State) (m : Monitor) :
    (s.setMonitor m).abandonMoulded = s.abandonMoulded.setMonitor m := by
  unfold State.abandonMoulded
  rw [State.setMonitor_tracker]
  cases s.tracker.openRec with
  | none => rfl
  | some i =>
    by_cases hslot : (s.tracker.get i).slot.isSome = true
    · simp only [if_pos hslot]; rfl
    · simp only [if_neg hslot]

/-! ### What follows a debounced change (R45) -/

theorem mouldFollows_of_none (hs : s.monitor.state = .none) (x : Input) :
    s.mouldFollows x =
      if s.monitor.clamp.debounced = some true ∧ s.monitor.code.debounced.isSome = true then s.setMouldState .unconfirmed
      else s := by
  simp only [State.mouldFollows, hs]

theorem mouldFollows_of_unconfirmed (hs : s.monitor.state = .unconfirmed) (x : Input) :
    s.mouldFollows x = if s.monitor.clamp.debounced = some true then s else s.setMouldState .none := by
  simp only [State.mouldFollows, hs]

theorem mouldFollows_code_of_confirmed {snap : Snapshot} (hs : s.monitor.state = .confirmed snap) :
    s.mouldFollows .code = s.departConfirmed .unconfirmed := by
  simp only [State.mouldFollows, hs]

theorem mouldFollows_clamp_of_confirmed {snap : Snapshot} (hs : s.monitor.state = .confirmed snap) :
    s.mouldFollows .clamp = if s.monitor.clamp.debounced = some true then s else s.departConfirmed .none := by
  simp only [State.mouldFollows, hs]

namespace CycleLaw

/-- The mould leaves CONFIRMED (R17, R46). -/
theorem depart (h : CycleLaw s) {m : Monitor} {after : MouldState}
    (hm : MonitorLaw (s.setMonitor { m with state := after })) : CycleLaw ((s.setMonitor m).departConfirmed after) := by
  obtain ⟨hleft, hnone⟩ := h.abandonMoulded
  have hcore := s.abandonMoulded_cycleOnly
  have hmoulds (slot : Fin 16) : s.abandonMoulded.mould slot = s.mould slot := by rw [State.mould, hcore.moulds]; rfl
  have hlaw : MonitorLaw (s.abandonMoulded.setMonitor { m with state := after }) :=
    hm.congr rfl fun slot hs => (congrArg Option.isSome (hmoulds slot)).trans hs
  have hmoved := hleft.setMonitor_of_unmoulded hlaw hnone
  rw [← abandonMoulded_setMonitor] at hmoved
  exact hmoved.raise _

/-- A debounced value has changed, and the mould state follows it (R45). -/
theorem mouldFollows (h : CycleLaw s) {m : Monitor} {x : Input} (hcode : DebounceOk m.code) (hclamp : DebounceOk m.clamp)
    (hstate : m.state = s.monitor.state) (hsame : x = .code → m.clamp = s.monitor.clamp ∧ m.code.debounced.isSome = true)
    (hother : x = .clamp → m.code = s.monitor.code) : CycleLaw ((s.setMonitor m).mouldFollows x) := by
  obtain ⟨-, -, -, hun, hconf⟩ := (monitorLaw_iff s).mp h.monitor
  cases hs : s.monitor.state with
  | none =>
    have hnone := h.unmoulded (by simp only [State.installed, hs])
    have hm : (s.setMonitor m).monitor.state = .none := hstate.trans hs
    rw [mouldFollows_of_none hm]
    split
    case isTrue hin => exact h.setMonitor_of_unmoulded ⟨hcode, hclamp, hin⟩ hnone
    case isFalse hin =>
      refine h.setMonitor_of_unmoulded ((monitorLaw_iff _).mpr ⟨hcode, hclamp, fun _ => ?_, ?_, ?_⟩) hnone
      · by_cases hc : (s.setMonitor m).monitor.clamp.debounced = some true
        · exact .inr (Option.not_isSome_iff_eq_none.mp fun hsome => hin ⟨hc, hsome⟩)
        · exact .inl hc
      · rw [hm]; exact nofun
      · rw [hm]; exact nofun
  | unconfirmed =>
    have hnone := h.unmoulded (by simp only [State.installed, hs])
    have hm : (s.setMonitor m).monitor.state = .unconfirmed := hstate.trans hs
    rw [mouldFollows_of_unconfirmed hm]
    split
    case isTrue hin =>
      refine h.setMonitor_of_unmoulded ((monitorLaw_iff _).mpr ⟨hcode, hclamp, ?_, fun _ => ⟨hin, ?_⟩, ?_⟩) hnone
      · rw [hm]; exact nofun
      · cases x with
        | code => exact (hsame rfl).2
        | clamp => rw [State.setMonitor_monitor, hother rfl]; exact (hun hs).2
      · rw [hm]; exact nofun
    case isFalse hin => exact h.setMonitor_of_unmoulded ⟨hcode, hclamp, .inl hin⟩ hnone
  | confirmed snap =>
    obtain ⟨hsnap, hwas, hcodeWas, hloaded⟩ := hconf snap hs
    have hm : (s.setMonitor m).monitor.state = .confirmed snap := hstate.trans hs
    cases x with
    | code =>
      obtain ⟨hkept, hsome⟩ := hsame rfl
      rw [mouldFollows_code_of_confirmed hm]
      exact h.depart ⟨hcode, hclamp, by rw [State.setMonitor_monitor, hkept]; exact hwas, hsome⟩
    | clamp =>
      rw [mouldFollows_clamp_of_confirmed hm]
      split
      case isTrue hin =>
        refine h.setMonitor ((monitorLaw_iff _).mpr ⟨hcode, hclamp, ?_, ?_, fun snap' hs' => ?_⟩) fun i slot ho hsl => ?_
        · rw [hm]; exact nofun
        · rw [hm]; exact nofun
        · obtain rfl : snap = snap' := by simpa using hm.symm.trans hs'
          exact ⟨hsnap, hin, by rw [State.setMonitor_monitor, hother rfl]; exact hcodeWas, hloaded⟩
        · obtain ⟨hi, -⟩ := h.carried i slot hsl
          rw [installed_congr (s := s) hstate]
          exact hi ho
      case isFalse hin => exact h.depart ⟨hcode, hclamp, .inl hin⟩

theorem debounceExpires (h : CycleLaw s) {x : Input} (hx : s.debouncing x = true) : CycleLaw (s.debounceExpires x) := by
  obtain ⟨hcode, hclamp, -⟩ := h.monitor
  cases x with
  | code =>
    obtain ⟨hok, hdeb, -⟩ := hcode.expire hx
    exact h.mouldFollows (x := .code) (m := { s.monitor with code := s.monitor.code.expire }) hok hclamp rfl
      (fun _ => ⟨rfl, by simp [hdeb]⟩) nofun
  | clamp =>
    obtain ⟨hok, -, -⟩ := hclamp.expire hx
    exact h.mouldFollows (x := .clamp) (m := { s.monitor with clamp := s.monitor.clamp.expire }) hcode hok rfl nofun fun _ => rfl

end CycleLaw

/-! ### Mould slots change -/

@[simp] theorem mould_setMould_same (s : State) (slot : Fin 16) (m : MouldRecord) : (s.setMould slot m).mould slot = some m := by
  simp [State.setMould, State.mould]

theorem mould_setMould_of_ne {slot k : Fin 16} (h : k ≠ slot) (m : MouldRecord) : (s.setMould slot m).mould k = s.mould k := by
  have : slot.val ≠ k.val := fun he => h (Fin.ext he.symm)
  simp [State.setMould, State.mould, this]

/-- LOADED slots stay LOADED, and a carried one keeps the watch points of its profiles, in their order. -/
theorem CycleBase.setMoulds (h : CycleBase s) {x : Vector (Option MouldRecord) 16}
    (hloaded : ∀ slot, (s.mould slot).isSome = true → ((s.setMoulds x).mould slot).isSome = true)
    (hpoints : ∀ i slot m, (s.tracker.get i).slot = some slot → s.mould slot = some m →
      ∃ m', (s.setMoulds x).mould slot = some m' ∧
        m'.profiles.map Profile.watchPoint = m.profiles.map Profile.watchPoint) : CycleBase (s.setMoulds x) := by
  refine ⟨h.records.congr (fun _ => rfl) rfl rfl h.records.ready, h.monitor.congr rfl hloaded, fun i slot hs => ?_⟩
  obtain ⟨hinst, m, hm, hps⟩ := h.carried i slot hs
  obtain ⟨m', hm', hps'⟩ := hpoints i slot m hs hm
  exact ⟨hinst, m', hm', hps.trans hps'.symm⟩

/-- A LOADED slot is written with a record of the same watch points. -/
theorem CycleBase.setMould (h : CycleBase s) {slot : Fin 16} {m m' : MouldRecord} (hm : s.mould slot = some m)
    (hps : m'.profiles.map Profile.watchPoint = m.profiles.map Profile.watchPoint) : CycleBase (s.setMould slot m') := by
  refine h.setMoulds (fun k hk => ?_) fun i k n _ hn => ?_
  · by_cases he : k = slot
    · exact he ▸ (congrArg Option.isSome (mould_setMould_same s slot m')).trans rfl
    · exact (congrArg Option.isSome (mould_setMould_of_ne he m')).trans hk
  · by_cases he : k = slot
    · subst he
      obtain rfl := Option.some.inj (hm.symm.trans hn)
      exact ⟨m', mould_setMould_same s k m', hps⟩
    · exact ⟨n, (mould_setMould_of_ne he m').trans hn, rfl⟩

/-! ### The completion of a judgement -/

theorem profileAfter_watchPoint (list : List SuspectEntry) (h : MouldHeader) (slot : Fin 16) (xs : List SummaryEntry)
    (p : Profile) : (profileAfter list h slot xs p).watchPoint = p.watchPoint := by
  unfold profileAfter
  split <;> rfl

theorem mouldAfter_points (list : List SuspectEntry) (slot : Fin 16) (xs : List SummaryEntry) (m : MouldRecord) :
    (mouldAfter list slot xs m).profiles.map Profile.watchPoint = m.profiles.map Profile.watchPoint := by
  simp [mouldAfter, Function.comp_def, profileAfter_watchPoint]

theorem CycleBase.applyToSlot (h : CycleBase s) (list : List SuspectEntry) (slot : Fin 16) (xs : List SummaryEntry) :
    CycleBase (s.applyToSlot list slot xs) := by
  unfold State.applyToSlot
  split
  case h_1 m hm => exact h.setMould hm (mouldAfter_points list slot xs m)
  · exact h

theorem CycleBase.applyJudgement (h : CycleBase s) (j : Judging) (slot : Fin 16) (cycle : Half) :
    CycleBase (s.applyJudgement j slot cycle) := by
  have hj := s.applyJudgement_judged j slot cycle
  have hslot := h.applyToSlot s.suspects slot (s.judgedResults j slot cycle)
  rw [State.applyToSlot_eq] at hslot
  exact hslot.congr (fun i => by rw [hj.tracker]; rfl) (by rw [hj.engine]; rfl) (by rw [hj.judging]; rfl)
    (by rw [hj.tables]; exact h.records.ready) hj.monitor hj.moulds

/-- The judged record goes FREE, and a record in WAIT goes to judgement (R14, R72). -/
theorem CycleBase.endJudgement (h : CycleBase s) {i : RecId} (hi : (s.tracker.get i).state = .judging) :
    CycleLaw (s.endJudgement i) := by
  have hjudged := (h.records.judging i).mp hi
  have hother : (s.tracker.get i.other).state ≠ .judging := fun ho => by
    have := ((h.records.judging i.other).mp ho).symm.trans hjudged
    cases i <;> simp [RecId.other] at this
  unfold State.endJudgement
  simp only
  generalize hu : (s.freeRec i).setVerdict { s.verdict with judging := none } = u
  have hmine : u.tracker.get i = CycleRecord.freed (s.tracker.get i).number := by
    rw [← hu]; exact Tracker.get_put _ _ _
  have hget : u.tracker.get i.other = s.tracker.get i.other := by
    rw [← hu]; exact Tracker.get_put_other _ _ _
  have hback : u.tracker.get i.other.other = CycleRecord.freed (s.tracker.get i).number := by
    rw [RecId.other_other, hmine]
  have hmonitor : MonitorLaw u := hu ▸ h.monitor
  have hready : u.engine.operating = .watching → u.tables.setup.isSome = true ∧ u.tables.channels ≠ [] := by
    rw [← hu]; exact h.records.ready
  have hcarried : CarriedOk u (s.tracker.get i.other) := hu ▸ h.carried i.other
  split
  case isTrue hwait =>
    rw [hget] at hwait
    obtain ⟨-, hnumber, hcycle, -, hslot, -⟩ := h.records.ok i.other
    obtain ⟨slot, hs⟩ := Option.isSome_iff_exists.mp (hslot hwait).2
    obtain ⟨-, m, hm, hpoints⟩ := hcarried slot hs
    rw [State.startJudgement_eq (by rw [hget]; exact hs) hm]
    have hput : (u.tracker.put i.other { u.tracker.get i.other with state := .judging, graceTimer := none }).get i.other.other =
        CycleRecord.freed (s.tracker.get i).number := (Tracker.get_put_other _ _ _).trans hback
    refine CycleLaw.judge (i := i.other) (r := u.tracker.get i.other) (slot := slot) (m := m) hmonitor hready
      (Tracker.get_put _ _ _) rfl (by rw [hget]; exact hs) hm ?_ ?_ (by rw [hget]; exact hpoints) ?_ ?_ ?_ fun _ => ?_
    · rw [hget]; exact hnumber (by simp [hwait])
    · rw [hget]; simpa [CycleRecord.isOpen, hwait] using hcycle
    · simp only [hput]; exact recordOk_freed _ _
    · simp only [hput]; exact carriedOk_freed _
    · simp only [hput]; exact nofun
    · simp only [hput]; rfl
  case isFalse hwait =>
    rw [hget] at hwait
    have hverdict : u.verdict.judging = none := hu ▸ rfl
    have hhalted : u.engine.operating = .halted → s.engine.operating = .halted := hu ▸ id
    refine ⟨⟨⟨?_, ?_, fun hh => ?_, ?_, hready⟩, hmonitor, ?_⟩, fun j hj => absurd (hverdict.symm.trans hj) nofun⟩
    · refine (RecId.forall_iff i _).mpr ⟨fun ho => ?_, fun _ => ?_⟩
      · rw [hmine] at ho; cases ho
      · rw [hback]; rfl
    · refine (RecId.forall_iff i _).mpr ⟨?_, ?_⟩
      · rw [hmine]; exact recordOk_freed _ _
      · rw [hget]; exact (h.records.ok i.other).of_not_wait hwait
    · refine (RecId.forall_iff i _).mpr ⟨?_, ?_⟩
      · rw [hmine]; exact .inl rfl
      · rw [hget]; exact h.records.halted (hhalted hh) i.other
    · refine (RecId.forall_iff i _).mpr ⟨?_, ?_⟩
      · rw [hmine, hverdict]; exact ⟨nofun, nofun⟩
      · rw [hget, hverdict]; exact ⟨fun ho => absurd ho hother, nofun⟩
    · refine (RecId.forall_iff i _).mpr ⟨?_, ?_⟩
      · rw [hmine]; exact carriedOk_freed _
      · rw [hget]; exact hcarried

/-- The completion of the judgement in progress (R81). -/
theorem CycleLaw.completeJudgement (h : CycleLaw s) {j : Judging} (hj : s.verdict.judging = some j) :
    CycleLaw (s.completeJudgement j) := by
  have hstate : (s.tracker.get j.record).state = .judging := (h.records.judging j.record).mpr (by rw [hj]; rfl)
  unfold State.completeJudgement
  split
  case h_1 slot cycle _ _ =>
    refine (h.toCycleBase.applyJudgement j slot cycle).endJudgement ?_
    rw [(s.applyJudgement_judged j slot cycle).tracker]
    exact hstate
  · exact h.toCycleBase.endJudgement hstate

end Sys2Proof.Machine
end

section
/-! Requests, frames and resets keep the laws of the records and the monitor; with them, every step does (R2, R17, R18, R29, R63). -/

namespace Sys2Proof.Machine

variable {s t : State}

/-! ### Requests -/

/-- Where every record is at rest, HALTED may be entered, and WATCHING with its setup and channels (R18, R170). -/
theorem CycleLaw.setOperating (h : CycleLaw s) (op : OpState)
    (hrest : op = .halted → ∀ i, (s.tracker.get i).state = .free ∨ (s.tracker.get i).state = .judging)
    (hready : op = .watching → s.tables.setup.isSome = true ∧ s.tables.channels ≠ []) : CycleLaw (s.setOperating op) := by
  obtain ⟨⟨hrecords, hmonitor, hcarried⟩, hjudged⟩ := h
  exact ⟨⟨⟨hrecords.oneOpen, hrecords.ok, hrest, hrecords.judging, hready⟩, hmonitor, hcarried⟩, hjudged⟩

theorem CycleLaw.enterWatching (h : CycleLaw s) (hf : s.startFault = none) : CycleLaw s.enterWatching := by
  have hready : s.tables.setup.isSome = true ∧ s.tables.channels ≠ [] := by
    unfold State.startFault at hf
    split at hf
    · cases hf
    case isFalse hsetup =>
      split at hf
      · cases hf
      case isFalse hchannels => exact ⟨Option.ne_none_iff_isSome.mp (by simpa using hsetup), hchannels⟩
  have hstarted := h.setOperating .watching nofun fun _ => hready
  have htracked : CycleLaw ((s.setOperating .watching).setTracker { s.tracker with unsync := true }) :=
    hstarted.congr (fun k => by cases k <;> rfl) rfl rfl hstarted.records.ready rfl rfl
  exact htracked.linksOnly (State.mapPods_linksOnly _ _)

theorem CycleLaw.haltRec (h : CycleLaw s) (i : RecId) :
    CycleLaw (s.haltRec i) ∧ (((s.haltRec i).tracker.get i).state = .free ∨ ((s.haltRec i).tracker.get i).state = .judging) ∧
      (s.haltRec i).tracker.get i.other = s.tracker.get i.other := by
  have habandoned (hstate : (s.tracker.get i).state ≠ .judging) := h.abandon hstate
  have hmine : ((s.abandon i).tracker.get i).state = .free := congrArg CycleRecord.state (Tracker.get_put _ _ _)
  have hother : (s.abandon i).tracker.get i.other = s.tracker.get i.other := Tracker.get_put_other _ _ _
  unfold State.haltRec
  split
  case h_1 p hp => exact ⟨habandoned (by simp [hp]), .inl hmine, hother⟩
  case h_2 hp => exact ⟨habandoned (by simp [hp]), .inl hmine, hother⟩
  case h_3 hp => exact ⟨habandoned (by simp [hp]), .inl hmine, hother⟩
  case h_4 hp => exact ⟨h, .inr hp, rfl⟩
  case h_5 hp => exact ⟨h, .inl hp, rfl⟩

theorem haltRec_setOperating (s : State) (op : OpState) (i : RecId) :
    (s.setOperating op).haltRec i = (s.haltRec i).setOperating op := by
  rw [State.haltRec_eq, State.haltRec_eq]
  rfl

theorem CycleLaw.enterHalted (h : CycleLaw s) : CycleLaw s.enterHalted := by
  obtain ⟨ha, hresta, -⟩ := h.haltRec .a
  obtain ⟨hb, hrestb, hkept⟩ := ha.haltRec .b
  have hrest (i : RecId) : (((s.haltRec .a).haltRec .b).tracker.get i).state = .free ∨
      (((s.haltRec .a).haltRec .b).tracker.get i).state = .judging := by
    cases i with
    | a => rw [show ((s.haltRec .a).haltRec .b).tracker.get .a = (s.haltRec .a).tracker.get .a from hkept]; exact hresta
    | b => exact hrestb
  have hhalted := hb.setOperating .halted (fun _ => hrest) nofun
  unfold State.enterHalted
  rw [haltRec_setOperating, haltRec_setOperating]
  have hemptied : CycleLaw ((((s.haltRec .a).haltRec .b).setOperating .halted).setExam []) :=
    hhalted.congr (fun _ => rfl) rfl rfl hhalted.records.ready rfl rfl
  exact hemptied.linksOnly (State.restPods_linksOnly _)

/-- The core as a RESTART leaves it (R19, R27, R54, R88, R172, R185). -/
theorem restarted_core (s : State) :
    s.restarted.engine = ⟨.halted, [], none, .restart⟩ ∧ s.restarted.tables = s.tables ∧
      s.restarted.tracker = Tracker.reset ∧ s.restarted.exam = [] ∧ s.restarted.moulds = s.moulds ∧
      s.restarted.monitor = { s.monitor with state := s.mouldAfterRestart } ∧ s.restarted.suspects = s.suspects ∧
      s.restarted.verdict = ⟨none, none⟩ ∧ s.restarted.trace = .off := by
  unfold State.restarted State.restartBlocks
  rw [State.emptyQueues_eq]
  exact ⟨rfl, rfl, rfl, rfl, rfl, rfl, rfl, rfl, rfl⟩

/-- Both records FREE, nothing judged, HALTED: the laws ask no more than the monitor's. -/
theorem cycleLaw_of_reset (htracker : t.tracker = Tracker.reset) (hop : t.engine.operating = .halted)
    (hverdict : t.verdict.judging = none) (hmonitor : MonitorLaw t) : CycleLaw t := by
  have hget (i : RecId) : t.tracker.get i = CycleRecord.freed none := by
    rw [htracker]; cases i <;> rfl
  refine ⟨⟨⟨?_, ?_, ?_, ?_, ?_⟩, hmonitor, ?_⟩, ?_⟩
  · simp only [hget]; exact fun _ h => nomatch h
  · simp only [hget]; exact fun _ => recordOk_freed _ _
  · simp only [hget]; exact fun _ _ => .inl rfl
  · simp only [hget, hverdict]; exact fun _ => ⟨nofun, nofun⟩
  · rw [hop]; exact nofun
  · simp only [hget]; exact fun _ => carriedOk_freed _
  · rw [JudgedLaw, hverdict]; exact nofun

theorem CycleLaw.restarted (h : CycleLaw s) : CycleLaw s.restarted := by
  obtain ⟨hengine, -, htracker, -, -, hmon, -, hverdict, -⟩ := restarted_core s
  obtain ⟨hcode, hclamp, -⟩ := h.monitor
  refine cycleLaw_of_reset htracker (by rw [hengine]) (by rw [hverdict]) ?_
  unfold MonitorLaw
  rw [hmon]
  refine ⟨hcode, hclamp, ?_⟩
  simp only [State.mouldAfterRestart]
  by_cases hin : s.monitor.code.debounced.isSome = true ∧ s.monitor.clamp.debounced = some true
  · rw [if_pos hin]
    exact ⟨hin.2, hin.1⟩
  · rw [if_neg hin]
    by_cases hc : s.monitor.clamp.debounced = some true
    · exact .inr (Option.not_isSome_iff_eq_none.mp fun hsome => hin ⟨hsome, hc⟩)
    · exact .inl hc

/-! ### Loads -/

theorem CycleLaw.setLoad (h : CycleLaw s) (x : Option OpenLoad) : CycleLaw (s.setLoad x) :=
  h.congr (fun _ => rfl) rfl rfl h.records.ready rfl rfl

/-- Tables change in HALTED alone (R167). -/
theorem CycleLaw.setTables (h : CycleLaw s) (hop : s.engine.operating = .halted) (x : Tables) : CycleLaw (s.setTables x) :=
  h.congr (fun _ => rfl) rfl rfl (fun hw => absurd (hw.symm.trans hop) nofun) rfl rfl

theorem not_carried {slot : Fin 16} (hc : s.carried slot = false) {i : RecId} (hi : (s.tracker.get i).slot = some slot) :
    (s.tracker.get i).isClosed = false := by
  simp only [State.carried, Bool.or_eq_false_iff, Bool.and_eq_false_iff] at hc
  cases i with
  | a => exact hc.1.resolve_right (by simp [show s.tracker.a.slot = some slot from hi])
  | b => exact hc.2.resolve_right (by simp [show s.tracker.b.slot = some slot from hi])

/-- The slot of the record being judged is carried (R63). -/
theorem carried_of_judging {i : RecId} {slot : Fin 16} (hstate : (s.tracker.get i).state = .judging)
    (hslot : (s.tracker.get i).slot = some slot) : s.carried slot = true := by
  refine Bool.not_eq_false _ |>.mp fun hc => ?_
  have := not_carried hc hslot
  simp [CycleRecord.isClosed, hstate] at this

/-- A record with a slot is OPEN or closed. -/
theorem isOpen_or_isClosed {r : CycleRecord} (h : r.state ≠ .free) : r.isOpen = true ∨ r.isClosed = true := by
  unfold CycleRecord.isOpen CycleRecord.isClosed
  cases hs : r.state <;> simp [hs] at h ⊢

/-- The mould record of the judgement in progress stands while its slot does. -/
theorem JudgedLaw.setMoulds (h : JudgedLaw s) (hr : Records s) {x : Vector (Option MouldRecord) 16}
    (hkept : ∀ slot, s.carried slot = true → (s.setMoulds x).mould slot = s.mould slot) : JudgedLaw (s.setMoulds x) := by
  intro j hj
  obtain ⟨slot, hs, hm⟩ := h j hj
  have hstate : (s.tracker.get j.record).state = .judging := (hr.judging j.record).mpr (by
    rw [show s.verdict.judging = some j from hj]; rfl)
  exact ⟨slot, hs, (hkept slot (carried_of_judging hstate hs)).trans hm⟩

/-- A slot that is not in use is carried by no record (R17, R63). -/
theorem CycleLaw.slot_ne_of_not_inUse (h : CycleLaw s) {slot : Fin 16} (hu : s.inUse slot = false) (i : RecId) :
    (s.tracker.get i).slot ≠ some slot := fun hs => by
  obtain ⟨hw, hc⟩ : (s.watching && s.installed == some slot) = false ∧ s.carried slot = false := by
    simpa [State.inUse] using hu
  have hclosed := not_carried hc hs
  have hfree : (s.tracker.get i).state ≠ .free := fun hf => by
    obtain ⟨hfreed, -⟩ := h.records.ok i
    rw [hfreed hf] at hs
    cases hs
  have hisOpen := (isOpen_or_isClosed hfree).resolve_right (by simp [hclosed])
  obtain ⟨hinst, -⟩ := h.carried i slot hs
  have hwatching := State.watching_eq_true.mpr (h.records.watching hfree (state_ne_judging_of_isOpen hisOpen))
  simp [hwatching, hinst hisOpen] at hw

/-- The commit of a mould load to a slot that is not in use (R47, R63, R66). -/
theorem CycleLaw.commitMould (h : CycleLaw s) {slot : Fin 16} (hu : s.inUse slot = false) (m : MouldRecord) :
    CycleLaw (s.commitMould slot m) := by
  have hfree := h.slot_ne_of_not_inUse hu
  have hwritten : CycleLaw (s.setMould slot m) := by
    refine ⟨h.toCycleBase.setMoulds (fun k hk => ?_) fun i k n hs hn => ?_, h.judged.setMoulds h.records fun k hk => ?_⟩
    · by_cases he : k = slot
      · exact he ▸ (congrArg Option.isSome (mould_setMould_same s slot m)).trans rfl
      · exact (congrArg Option.isSome (mould_setMould_of_ne he m)).trans hk
    · exact ⟨n, (mould_setMould_of_ne (fun he => hfree i (hs.trans (congrArg some he))) m).trans hn, rfl⟩
    · refine mould_setMould_of_ne (fun he => ?_) m
      rw [he] at hk
      simp [State.inUse, hk] at hu
  have hlisted : CycleLaw ((s.setMould slot m).setSuspects (s.suspects.filter fun e => e.slot != slot)) :=
    hwritten.congr (fun _ => rfl) rfl rfl hwritten.records.ready rfl rfl
  unfold State.commitMould
  simp only
  split
  case isTrue hi =>
    obtain ⟨hcode, hclamp, -, -, hconf⟩ := (monitorLaw_iff s).mp h.monitor
    have hstate : ∃ snap, s.monitor.state = .confirmed snap := by
      unfold State.installed at hi
      split at hi
      case h_1 snap hs => exact ⟨snap, hs⟩
      · cases hi
      · cases hi
    obtain ⟨snap, hs⟩ := hstate
    obtain ⟨-, hin, hcoded, -⟩ := hconf snap hs
    refine hlisted.setMonitor_of_unmoulded ⟨hcode, hclamp, hin, (congrArg Option.isSome hcoded).trans rfl⟩ ?_
    intro i k ho hk
    obtain ⟨hinst, -⟩ := h.carried i k hk
    exact hfree i (hk.trans ((hinst ho).symm.trans hi))
  · exact hlisted

theorem CycleLaw.proceedLoad (h : CycleLaw s) {l : OpenLoad} (hl : LoadOk s.engine.operating l) :
    CycleLaw (proceedLoad l s).1 := by
  unfold Machine.proceedLoad commitLoad
  simp only
  split
  · split
    case h_1 records hstaging =>
      split
      · exact h.setLoad none
      case h_2 table _ =>
        have hop : s.engine.operating = .halted := by
          unfold LoadOk at hl
          rw [hstaging] at hl
          exact hl.1
        have hreplaced := (h.setLoad none).setTables hop { s.tables with channels := table }
        exact hreplaced.congr (fun _ => rfl) rfl rfl hreplaced.records.ready rfl rfl
    · split
      · exact h.setLoad none
      · split
        · exact h.setLoad none
        case isFalse hu => exact (h.setLoad none).commitMould (Bool.eq_false_iff.mpr hu) _
  · exact h.setLoad _

theorem MouldRecord.relearn_points (m : MouldRecord) (wp : Fin 24) :
    (m.relearn wp).profiles.map Profile.watchPoint = m.profiles.map Profile.watchPoint := by
  rw [MouldRecord.relearn, List.map_map]
  refine List.map_congr_left fun p _ => ?_
  simp only [Function.comp_apply]
  split <;> rfl

/-- Every request's own part keeps the laws. -/
theorem CycleLaw.asked (h : CycleLaw s) (hl : LoadLaw s) (ht : Asked s t) : CycleLaw t := by
  cases ht with
  | same => exact h
  | started _ _ hf => exact h.enterWatching hf
  | halted => exact h.enterHalted
  | restarted => exact h.restarted
  | setup su hw => exact h.setTables (State.watching_eq_false.mp hw) _
  | bandSets pairs => exact h.congr (fun _ => rfl) rfl rfl h.records.ready rfl rfl
  | noChannels hw =>
    have hreplaced := h.setTables (State.watching_eq_false.mp hw) { s.tables with channels := [] }
    exact hreplaced.congr (fun _ => rfl) rfl rfl hreplaced.records.ready rfl rfl
  | proceeded l hok => exact h.proceedLoad (hok hl)
  | aborted => exact h.setLoad none
  | confirmed code m hclamp hcode hm => exact h.confirm hclamp hcode (by simp [hm])
  | relearned slot wp m hc hm =>
    have hwritten : CycleLaw (s.setMould slot (m.relearn wp)) := by
      refine ⟨h.toCycleBase.setMould hm (m.relearn_points wp), h.judged.setMoulds h.records fun k hk => ?_⟩
      refine mould_setMould_of_ne (fun he => ?_) _
      rw [he, hc] at hk
      cases hk
    exact hwritten.congr (fun _ => rfl) rfl rfl hwritten.records.ready rfl rfl
  | released | cleared | enabled | selected | frozen | unfrozen | untraced =>
    exact h.congr (fun _ => rfl) rfl rfl h.records.ready rfl rfl

/-! ### Frames -/

namespace CycleLaw

theorem offerCopy (h : CycleLaw s) (f : Frame) : CycleLaw (s.offerCopy f) := by
  unfold State.offerCopy
  split
  · split
    · exact h.congr (fun _ => rfl) rfl rfl h.records.ready rfl rfl
    · exact h.raise _
  · exact h

theorem routeU (h : CycleLaw s) (f : Frame) : CycleLaw (s.routeU f) := by
  unfold State.routeU State.routeDown State.routeSample
  simp only
  split
  · exact h.raise _
  · split
    · split
      · split
        · exact (h.offerCopy f).linksOnly (State.offerForward_linksOnly _ _)
        · exact h.offerCopy f
      · exact (h.raise _).linksOnly (State.offerForward_linksOnly _ _)
    · exact h.linksOnly (s.offerForward_linksOnly _)

theorem routeOwn (h : CycleLaw s) (f : Frame) : CycleLaw (s.routeOwn f) := by
  unfold State.routeOwn State.offerInbox
  split
  · split
    · exact h.congr (fun _ => rfl) rfl rfl h.records.ready rfl rfl
    · exact h.raise _
  · exact h.raise _

theorem routeD (h : CycleLaw s) (f : Frame) : CycleLaw (s.routeD f) := by
  unfold State.routeD State.routeUp State.routeMark
  split
  · exact h.raise _
  · split
    · exact h.routeOwn f
    · split
      · split
        · exact (h.showMark f).linksOnly (State.offerUpward_linksOnly _ _)
        · exact (h.raise _).linksOnly (State.offerUpward_linksOnly _ _)
      · exact h.linksOnly (s.offerUpward_linksOnly _)

theorem receiveEnd (h : CycleLaw s) (p : Port) : CycleLaw (s.receiveEnd p) := by
  have hframing (x : Framing) : CycleLaw (s.setFraming p x) := h.linksOnly (s.setFraming_linksOnly p x)
  unfold State.receiveEnd
  split
  · exact h.raise _
  · simp only
    split
    · cases p
      · exact ((hframing _).linksOnly (State.podHears_linksOnly _ _)).routeU _
      · exact (hframing _).routeD _
    · exact (hframing _).raise _
  · exact hframing _

end CycleLaw

/-! ### Every effect -/

theorem cycleLaw_resetBy (s : State) (cause : ResetCause) (pins : Pins) : CycleLaw (s.resetBy cause pins) :=
  cycleLaw_of_reset rfl rfl rfl ⟨⟨rfl, rfl, nofun⟩, ⟨rfl, rfl, nofun⟩, .inr rfl⟩

theorem Effect.cycleLaw {u : State} (h : Effect s u) (hs : CycleLaw s) (hl : LoadLaw s) : CycleLaw u := by
  have arrives (p : Port) : CycleLaw (s.symbolArrives p) := hs.linksOnly (s.symbolArrives_linksOnly p)
  cases h with
  | reset cause pins => exact cycleLaw_resetBy s cause pins
  | startSymbol p => exact (arrives p).linksOnly (State.receiveStart_linksOnly _ p)
  | frame p data => exact ((arrives p).linksOnly (State.dataRun_linksOnly _ p data)).receiveEnd p
  | dataSymbol p b => exact (arrives p).linksOnly (State.receiveData_linksOnly _ p b)
  | overlength p _ => exact ((arrives p).raise _).linksOnly (State.setFraming_linksOnly _ p _)
  | strayByte p => exact (arrives p).raise _
  | symbol p => exact arrives p
  | violation p => exact hs.linksOnly (s.breakFrame_linksOnly p)
  | hold p => exact (arrives p).linksOnly (State.hold_linksOnly _ p)
  | go p => exact (arrives p).linksOnly (State.release_linksOnly _ p)
  | idle p => exact ((arrives p).linksOnly (State.breakFrame_linksOnly _ p)).linksOnly (State.release_linksOnly _ p)
  | lost p => exact hs.linksOnly (s.loseSignal_linksOnly p)
  | sentFrame p => exact hs.linksOnly (s.endFrame_linksOnly p)
  | stall => exact hs.linksOnly s.stallExpires_linksOnly
  | silence p _ => exact ((hs.linksOnly (s.mapPods_linksOnly _)).joinSilenced p).raise _
  | cycle i hi => exact (hs.abandon (state_ne_judging_of_isOpen hi)).raise _
  | grace i hi =>
    simp only [State.graceMayExpire, Bool.and_eq_true, beq_iff_eq] at hi
    exact hs.graceExpires hi.1.1
  | judged j hj => exact hs.completeJudgement hj
  | examined c rest he => exact hs.examine c rest
  | rawChange x => exact hs.rawChanges x
  | debounced x hx => exact hs.debounceExpires hx
  | loadTimer => exact (hs.setLoad none).raise _
  | request r rest t a hi _ ht =>
    have hpopped : CycleLaw (s.popped rest) := hs.congr (fun _ => rfl) rfl rfl hs.records.ready rfl rfl
    exact (hpopped.asked hl ht).linksOnly (State.placeOwn_linksOnly t _)

end Sys2Proof.Machine
end

section
/-! What a load's commit writes lies in its ranges (R20, R56, R57, R65, R180). -/

namespace Sys2Proof.Machine

theorem inRange_iff {lo hi x : Nat} : inRange lo hi x = true ↔ lo ≤ x ∧ x ≤ hi := by
  simp [inRange]

/-! ### Channel tables -/

/-- An entry's fields lie in their ranges (R20). -/
def ChannelEntry.Ranged (e : ChannelEntry) : Prop :=
  1 ≤ e.hitThreshold ∧ e.hitThreshold ≤ 32767 ∧ 1 ≤ e.deadSpan ∧ e.deadSpan ≤ 255 ∧ e.decayThreshold ≤ 2047

/-- Two entries of one table differ in their (pod, channel) pair and in their watch point (R20). -/
def ChannelEntry.Apart (d e : ChannelEntry) : Prop :=
  ¬(d.pod = e.pod ∧ d.channel = e.channel) ∧ d.watchPoint ≠ e.watchPoint

theorem RawChannel.entry?_ranged {x : RawChannel} {e : ChannelEntry} (h : x.entry? = some e) : e.Ranged := by
  unfold entry? at h
  split at h
  · split at h
    case isTrue hf =>
      simp only [Bool.and_eq_true, inRange_iff] at hf
      obtain ⟨⟨⟨hhit, hdead⟩, hdecay⟩, -⟩ := hf
      cases h
      exact ⟨hhit.1, hhit.2, hdead.1, hdead.2, hdecay.2⟩
    · cases h
  · cases h

/-- A commit appends one entry a record, each in its ranges and apart from those before it (R180). -/
theorem channelsCommit_ok {records : List RawChannel} {earlier table : List ChannelEntry} {i : Nat}
    (h : channelsCommit records earlier i = .ok table) (hr : ∀ e ∈ earlier, e.Ranged)
    (hp : earlier.Pairwise ChannelEntry.Apart) :
    (∀ e ∈ table, e.Ranged) ∧ table.Pairwise ChannelEntry.Apart ∧ table.length = earlier.length + records.length := by
  induction records generalizing earlier i with
  | nil =>
    cases h
    exact ⟨hr, hp, rfl⟩
  | cons x xs ih =>
    rw [channelsCommit] at h
    split at h
    · cases h
    case h_2 e he =>
      split at h
      · cases h
      case isFalse hchannel =>
        split at h
        · cases h
        case isFalse hpoint =>
          have hmem : ∀ d ∈ earlier ++ [e], d.Ranged := by
            simpa [or_imp, forall_and] using ⟨hr, RawChannel.entry?_ranged he⟩
          have happart : (earlier ++ [e]).Pairwise ChannelEntry.Apart := by
            refine List.pairwise_append.mpr ⟨hp, List.pairwise_singleton _ _, fun d hd d' hd' => ?_⟩
            obtain rfl := List.mem_singleton.mp hd'
            simp only [List.any_eq_true, Bool.and_eq_true, beq_iff_eq, not_exists, not_and] at hchannel hpoint
            exact ⟨fun hsame => hchannel d hd hsame.1 hsame.2, hpoint d hd⟩
          obtain ⟨h1, h2, h3⟩ := ih h hmem happart
          exact ⟨h1, h2, by rw [h3, List.length_append, List.length_singleton, List.length_cons]; omega⟩

/-! ### Mould records -/

theorem RawHeader.header?_ok {x : RawHeader} {h : MouldHeader} (hx : x.header? = some h) :
    1 ≤ h.k ∧ h.n ≤ 8 ∧ h.driftShift ≤ 7 ∧ h.driftLimit ≤ 511 ∧ 1 ≤ h.minVibe ∧ h.minVibe ≤ 255 ∧ h.gapLimit ≤ 255 ∧
      1 ≤ h.w ∧ h.w ≤ 24 ∧ h.w = x.w := by
  unfold header? at hx
  split at hx
  case isTrue hf =>
    simp only [Bool.and_eq_true, inRange_iff] at hf
    obtain ⟨⟨⟨⟨⟨⟨⟨-, hk⟩, hn⟩, hshift⟩, hlimit⟩, hvibe⟩, hgap⟩, hw⟩ := hf
    cases hx
    exact ⟨hk.1, hn.2, hshift.2, hlimit.2, hvibe.1, hvibe.2, hgap.2, hw.1, hw.2, rfl⟩
  · cases hx

/-- A band place in range, loaded as its own current baseline (R57, R58). -/
theorem bandOk_placeOf {mask weight : Nat} {place : Nat × Nat} (limit : Nat) (h : placeOk mask weight place = true) :
    BandOk limit (placeOf mask weight place) := by
  unfold placeOf
  split
  · trivial
  case isFalse hin =>
    simp only [placeOk, Bool.or_eq_true, beq_iff_eq, hin, false_or, Bool.and_eq_true, inRange_iff] at h
    obtain ⟨hlevel, htol⟩ := h
    exact ⟨hlevel.2, hlevel.2, Nat.le_add_right _ _, Nat.le_add_right _ _, htol.1, htol.2⟩

theorem placeOf_isSome {mask weight : Nat} {place : Nat × Nat} :
    (placeOf mask weight place).isSome = true ↔ mask / weight % 2 ≠ 0 := by
  unfold placeOf
  split <;> simp_all

theorem RawProfile.profile?_ok {x : RawProfile} {p : Profile} (h : x.profile? = some p) (hring : x.ringHi ≤ 255)
    (limit : Nat) : p.watchPoint.val = x.watchPoint ∧ ProfileOk limit p := by
  unfold profile? at h
  split at h
  · split at h
    case isTrue hf =>
      simp only [fieldsOk, Bool.and_eq_true, inRange_iff, Bool.or_eq_true, beq_iff_eq, decide_eq_true_eq] at hf
      obtain ⟨⟨⟨⟨⟨⟨⟨⟨hmask, h1⟩, h2⟩, h3⟩, h4⟩, -⟩, hhit⟩, -⟩, hwindow⟩ := hf
      cases h
      refine ⟨rfl, bandOk_placeOf limit h1, bandOk_placeOf limit h2, bandOk_placeOf limit h3, bandOk_placeOf limit h4, ?_,
        fun l hl => ?_, fun w hw => ?_, Nat.zero_le _⟩
      · simp only [Bool.or_eq_true, placeOf_isSome]
        omega
      · simp only [Option.ite_none_left_eq_some, Option.some.injEq] at hl
        obtain ⟨hpresent, rfl⟩ := hl
        exact (hhit.resolve_left hpresent).2
      · simp only [Option.ite_none_left_eq_some, Option.some.injEq] at hw
        obtain ⟨hpresent, rfl⟩ := hw
        exact ⟨hwindow.resolve_left hpresent, hring⟩
    · cases h
  · cases h

/-- Watch points in order, each above the one before (R65 check 1). -/
theorem orderFault_some {xs : List RawProfile} {before i : Nat} (h : orderFault (some before) xs i = none) :
    (∀ x ∈ xs, before < x.watchPoint) ∧ xs.Pairwise fun x y => x.watchPoint < y.watchPoint := by
  induction xs generalizing before i with
  | nil => exact ⟨nofun, .nil⟩
  | cons x xs ih =>
    rw [orderFault] at h
    split at h
    case isTrue hlt =>
      obtain ⟨habove, hpairs⟩ := ih h
      refine ⟨fun y hy => ?_, .cons habove hpairs⟩
      rcases List.mem_cons.mp hy with rfl | hy
      · exact hlt
      · exact hlt.trans (habove y hy)
    · cases h

theorem orderFault_none {xs : List RawProfile} {i : Nat} (h : orderFault none xs i = none) :
    xs.Pairwise fun x y => x.watchPoint < y.watchPoint := by
  cases xs with
  | nil => exact .nil
  | cons x xs =>
    rw [orderFault] at h
    obtain ⟨habove, hpairs⟩ := orderFault_some h
    exact .cons habove hpairs

/-- A commit writes one profile a record, in their order (R66). -/
theorem profilesCommit_ok {xs : List RawProfile} {ps : List Profile} {i : Nat} (h : profilesCommit xs i = .ok ps) :
    List.Forall₂ (fun x p => x.profile? = some p) xs ps := by
  induction xs generalizing ps i with
  | nil =>
    cases h
    exact .nil
  | cons x xs ih =>
    rw [profilesCommit] at h
    split at h
    · cases h
    case h_2 p hp =>
      split at h
      · cases h
      case h_2 qs hqs =>
        cases h
        exact .cons hp (ih hqs)

theorem profilesCommit_points {xs : List RawProfile} {ps : List Profile} {i : Nat} (h : profilesCommit xs i = .ok ps)
    (hring : ∀ x ∈ xs, x.ringHi ≤ 255) (limit : Nat) :
    (ps.map fun p => p.watchPoint.val) = xs.map RawProfile.watchPoint ∧ ∀ p ∈ ps, ProfileOk limit p := by
  have hall := profilesCommit_ok h
  clear h
  induction hall with
  | nil => exact ⟨rfl, nofun⟩
  | cons hp _ ih =>
    obtain ⟨hx, hxs⟩ := List.forall_mem_cons.mp hring
    obtain ⟨hpoints, hok⟩ := ih hxs
    obtain ⟨hpoint, hprofile⟩ := RawProfile.profile?_ok hp hx limit
    exact ⟨by simp [hpoint, hpoints], List.forall_mem_cons.mpr ⟨hprofile, hok⟩⟩

/-- The mould record that a commit writes lies in its ranges, for a staging area that is complete (R65, R66). -/
theorem mouldCommit_ok {header : RawHeader} {profiles : List RawProfile} {m : MouldRecord}
    (h : mouldCommit header profiles = .ok m) (hw : profiles.length = header.w) (hring : ∀ x ∈ profiles, x.ringHi ≤ 255) :
    MouldOk m := by
  unfold mouldCommit at h
  split at h
  · cases h
  case h_2 horder =>
    split at h
    · cases h
    case h_2 hd hhd =>
      split at h
      · cases h
      case h_2 ps hps =>
        split at h
        · cases h
        case isFalse hkn =>
          cases h
          obtain ⟨hk, hn, hshift, hlimit, hvibe, hvibe', hgap, hw1, hw2, hwx⟩ := RawHeader.header?_ok hhd
          obtain ⟨hpoints, hok⟩ := profilesCommit_points hps hring hd.driftLimit
          have hlen : ps.length = profiles.length := (profilesCommit_ok hps).length_eq.symm
          refine ⟨hk, Nat.le_of_not_lt hkn, hn, hshift, hlimit, hvibe, hvibe', hgap, hw1, hw2, ?_, ?_, hok, Nat.zero_le _⟩
          · rw [hlen, hw, hwx]
          · have hpairs := orderFault_none horder
            rw [← List.pairwise_map (R := (· < ·)), ← hpoints, List.pairwise_map] at hpairs
            exact hpairs

end Sys2Proof.Machine
end

section
/-! The mould table and the suspect list under a judgement and a relearn (R57 to R61, R70, R92 to R99). -/

namespace Sys2Proof.Machine

variable {s t : State}

/-! ### Profiles -/

/-- A drift step stays within the drift limit of the loaded baseline and within 0-2047 (R61). -/
theorem BandOk.driftBand {h : MouldHeader} {place : Option BandProfile} (hp : BandOk h.driftLimit place) (level : Nat) :
    BandOk h.driftLimit (driftBand h place level) := by
  cases place with
  | none => trivial
  | some b =>
    obtain ⟨hloaded, -, -, -, htol⟩ := hp
    have hlow : driftLow h.driftLimit b ≤ driftHigh h.driftLimit b := by
      unfold driftLow driftHigh
      omega
    generalize hc : max (driftLow h.driftLimit b) (min (driftHigh h.driftLimit b) (driftTarget h.driftShift b level)) = c
    have hwithin : driftLow h.driftLimit b ≤ c ∧ c ≤ driftHigh h.driftLimit b := by omega
    unfold driftLow driftHigh at hwithin
    have hband : Machine.driftBand h (some b) level = some { b with current := c.toNat } := by
      rw [← hc]; rfl
    rw [hband]
    refine ⟨hloaded, ?_, ?_, ?_, htol⟩
    · show c.toNat ≤ 2047
      omega
    · show c.toNat ≤ b.loaded + h.driftLimit
      omega
    · show b.loaded ≤ c.toNat + h.driftLimit
      omega

@[simp] theorem driftBand_isSome (h : MouldHeader) (place : Option BandProfile) (level : Nat) :
    (driftBand h place level).isSome = place.isSome := by
  simp [driftBand]

theorem streakAfter_le {v : Verdict} {streak : Nat} (h : streak ≤ 15) : streakAfter v streak ≤ 15 := by
  cases v <;> simp [streakAfter, h]

theorem ProfileOk.profileAfter {h : MouldHeader} {p : Profile} (hp : ProfileOk h.driftLimit p) (list : List SuspectEntry)
    (slot : Fin 16) (xs : List SummaryEntry) : ProfileOk h.driftLimit (profileAfter list h slot xs p) := by
  obtain ⟨h1, h2, h3, h4, hmask, hhits, hring, hstreak⟩ := hp
  unfold Machine.profileAfter
  split
  · exact ⟨h1, h2, h3, h4, hmask, hhits, hring, hstreak⟩
  case h_2 x _ =>
    cases drifts list h slot x with
    | false => exact ⟨h1, h2, h3, h4, hmask, hhits, hring, streakAfter_le hstreak⟩
    | true =>
      refine ⟨h1.driftBand _, h2.driftBand _, h3.driftBand _, h4.driftBand _, ?_, hhits, hring, streakAfter_le hstreak⟩
      simpa [Four.zipWith] using hmask

/-- Profiles that keep their watch points and their ranges keep the record in its own (R57). -/
theorem MouldOk.map {m : MouldRecord} (h : MouldOk m) {f : Profile → Profile} {judged : Nat}
    (hpoint : ∀ p, (f p).watchPoint = p.watchPoint)
    (hok : ∀ p ∈ m.profiles, ProfileOk m.header.driftLimit p → ProfileOk m.header.driftLimit (f p))
    (hjudged : judged ≤ 4294967295) : MouldOk ⟨m.header, m.profiles.map f, judged⟩ := by
  obtain ⟨h1, h2, h3, h4, h5, h6, h7, h8, h9, h10, hlen, hpairs, hprofiles, -⟩ := h
  refine ⟨h1, h2, h3, h4, h5, h6, h7, h8, h9, h10, ?_, ?_, ?_, hjudged⟩
  · rw [List.length_map]; exact hlen
  · rw [List.pairwise_map]; simpa only [hpoint] using hpairs
  · rw [List.forall_mem_map]; exact fun p hp => hok p hp (hprofiles p hp)

theorem MouldOk.mouldAfter {m : MouldRecord} (h : MouldOk m) (list : List SuspectEntry) (slot : Fin 16)
    (xs : List SummaryEntry) : MouldOk (mouldAfter list slot xs m) :=
  h.map (profileAfter_watchPoint list m.header slot xs) (fun _ _ hp => hp.profileAfter list slot xs) (Nat.min_le_left _ _)

theorem BandOk.relearnBand {limit : Nat} {place : Option BandProfile} (h : BandOk limit place) :
    BandOk limit (relearnBand place) := by
  cases place with
  | none => trivial
  | some b =>
    obtain ⟨hloaded, -, -, -, htol⟩ := h
    exact ⟨hloaded, hloaded, Nat.le_add_right _ _, Nat.le_add_right _ _, htol⟩

theorem ProfileOk.relearn {limit : Nat} {p : Profile} (h : ProfileOk limit p) : ProfileOk limit p.relearn := by
  obtain ⟨h1, h2, h3, h4, hmask, hhits, hring, -⟩ := h
  refine ⟨h1.relearnBand, h2.relearnBand, h3.relearnBand, h4.relearnBand, ?_, hhits, hring, Nat.zero_le _⟩
  simpa [Profile.relearn, Four.map, Machine.relearnBand] using hmask

theorem MouldOk.relearn {m : MouldRecord} (h : MouldOk m) (wp : Fin 24) : MouldOk (m.relearn wp) := by
  have hjudged : m.judged ≤ 4294967295 := by
    obtain ⟨-, -, -, -, -, -, -, -, -, -, -, -, -, hj⟩ := h
    exact hj
  refine h.map (fun p => ?_) (fun p _ hp => ?_) hjudged
  · split <;> rfl
  · split
    · exact hp.relearn
    · exact hp

theorem MouldLaw.setMould (h : MouldLaw s) (slot : Fin 16) {m : MouldRecord} (hm : MouldOk m) :
    MouldLaw (s.setMould slot m) := by
  intro k n hn
  by_cases he : k = slot
  · subst he
    rw [mould_setMould_same] at hn
    exact Option.some.inj hn ▸ hm
  · rw [mould_setMould_of_ne he] at hn
    exact h k n hn

theorem MouldLaw.applyToSlot (h : MouldLaw s) (list : List SuspectEntry) (slot : Fin 16) (xs : List SummaryEntry) :
    MouldLaw (s.applyToSlot list slot xs) := by
  unfold State.applyToSlot
  split
  case h_1 m hm => exact h.setMould slot ((h slot m hm).mouldAfter list slot xs)
  · exact h

/-! ### The suspect list -/

/-- The headers of the LOADED slots, which is all that the list's law reads of them. -/
def State.headers (s : State) (slot : Fin 16) : Option MouldHeader := (s.mould slot).map MouldRecord.header

/-- Two entries name different slots or watch points (R92). -/
def SuspectEntry.Apart (d e : SuspectEntry) : Prop := ¬(d.slot = e.slot ∧ d.watchPoint = e.watchPoint)

/-- A list that the law allows under given headers (R92, R94). -/
structure ListOk (headers : Fin 16 → Option MouldHeader) (list : List SuspectEntry) : Prop where
  apart   : list.Pairwise SuspectEntry.Apart
  entries : ∀ e ∈ list, ∃ h, headers e.slot = some h ∧ EntryOk h e

theorem suspectLaw_iff (s : State) : SuspectLaw s ↔ ListOk s.headers s.suspects := by
  have hentry (e : SuspectEntry) :
      (∃ m, s.mould e.slot = some m ∧ EntryOk m.header e) ↔ ∃ h, s.headers e.slot = some h ∧ EntryOk h e := by
    simp [State.headers]
  constructor
  · rintro ⟨hapart, hentries⟩
    exact ⟨hapart, fun e he => (hentry e).mp (hentries e he)⟩
  · rintro ⟨hapart, hentries⟩
    exact ⟨hapart, fun e he => (hentry e).mpr (hentries e he)⟩

theorem SuspectEntry.names_iff {e : SuspectEntry} {slot : Fin 16} {wp : Fin 24} :
    e.names slot wp = true ↔ e.slot = slot ∧ e.watchPoint = wp := by
  simp [names]

theorem entryFor_eq_some {list : List SuspectEntry} {slot : Fin 16} {wp : Fin 24} {e : SuspectEntry}
    (h : entryFor list slot wp = some e) : e ∈ list ∧ e.slot = slot ∧ e.watchPoint = wp := by
  unfold entryFor at h
  exact ⟨List.mem_of_find?_eq_some h, SuspectEntry.names_iff.mp (List.find?_some (p := fun d : SuspectEntry => d.names slot wp) h)⟩

theorem entryFor_eq_none {list : List SuspectEntry} {slot : Fin 16} {wp : Fin 24} :
    entryFor list slot wp = none ↔ ∀ e ∈ list, ¬(e.slot = slot ∧ e.watchPoint = wp) := by
  simp only [entryFor, List.find?_eq_none, SuspectEntry.names_iff]

namespace ListOk

variable {headers : Fin 16 → Option MouldHeader} {list : List SuspectEntry} {slot : Fin 16} {wp : Fin 24} {h : MouldHeader}

theorem filter (hl : ListOk headers list) (p : SuspectEntry → Bool) : ListOk headers (list.filter p) :=
  ⟨hl.apart.filter p, fun e he => hl.entries e (List.mem_of_mem_filter he)⟩

theorem removeEntry (hl : ListOk headers list) (slot : Fin 16) (wp : Fin 24) : ListOk headers (removeEntry list slot wp) :=
  hl.filter _

/-- The named entry changes into one of the same name. -/
theorem updateEntry (hl : ListOk headers list) (hslot : headers slot = some h) {f : SuspectEntry → SuspectEntry}
    (hname : ∀ e, e.slot = slot → e.watchPoint = wp → (f e).slot = slot ∧ (f e).watchPoint = wp)
    (hok : ∀ e ∈ list, e.slot = slot → e.watchPoint = wp → EntryOk h e → EntryOk h (f e)) :
    ListOk headers (updateEntry list slot wp f) := by
  have hkept (e : SuspectEntry) : (if e.names slot wp then f e else e).slot = e.slot ∧
      (if e.names slot wp then f e else e).watchPoint = e.watchPoint := by
    split
    case isTrue hn =>
      obtain ⟨hs, hw⟩ := SuspectEntry.names_iff.mp hn
      obtain ⟨hfs, hfw⟩ := hname e hs hw
      exact ⟨hfs.trans hs.symm, hfw.trans hw.symm⟩
    · exact ⟨rfl, rfl⟩
  refine ⟨?_, ?_⟩
  · rw [Machine.updateEntry, List.pairwise_map]
    refine hl.apart.imp fun {d e} hde => ?_
    rw [SuspectEntry.Apart, (hkept d).1, (hkept d).2, (hkept e).1, (hkept e).2]
    exact hde
  · rw [Machine.updateEntry, List.forall_mem_map]
    intro e he
    obtain ⟨h', hh', heok⟩ := hl.entries e he
    rw [(hkept e).1]
    refine ⟨h', hh', ?_⟩
    split
    case isTrue hn =>
      obtain ⟨hs, hw⟩ := SuspectEntry.names_iff.mp hn
      rw [hs, hslot] at hh'
      obtain rfl := Option.some.inj hh'
      exact hok e he hs hw heok
    · exact heok

/-- An entry of a new name joins the list's end. -/
theorem append (hl : ListOk headers list) (hslot : headers slot = some h) {e : SuspectEntry} (hs : e.slot = slot)
    (hw : e.watchPoint = wp) (hnone : entryFor list slot wp = none) (hok : EntryOk h e) : ListOk headers (list ++ [e]) := by
  rw [entryFor_eq_none] at hnone
  refine ⟨List.pairwise_append.mpr ⟨hl.apart, List.pairwise_singleton _ _, fun d hd d' hd' => ?_⟩, fun d hd => ?_⟩
  · obtain rfl := List.mem_singleton.mp hd'
    exact fun hsame => hnone d hd ⟨hsame.1.trans hs, hsame.2.trans hw⟩
  · rcases List.mem_append.mp hd with hd | hd
    · exact hl.entries d hd
    · obtain rfl := List.mem_singleton.mp hd
      exact ⟨h, hs ▸ hslot, hok⟩

end ListOk

/-! ### Windows -/

theorem length_pushWindow {n : Nat} {window : List Judged} (h1 : 1 ≤ window.length) (h2 : window.length ≤ n) (x : Judged) :
    1 ≤ (pushWindow n window x).length ∧ (pushWindow n window x).length ≤ n := by
  unfold pushWindow
  split <;> simp <;> omega

theorem dCount_pushWindow_le (n : Nat) (window : List Judged) (x : Judged) :
    dCount (pushWindow n window x) ≤ dCount window + if x = .deviate then 1 else 0 := by
  have hdrop : dCount (window.drop 1) ≤ dCount window := (List.drop_sublist 1 window).countP_le
  unfold pushWindow dCount at *
  rw [List.countP_append]
  have hone : List.countP (fun y => y == Judged.deviate) [x] = if x = .deviate then 1 else 0 := by
    cases x <;> rfl
  rw [hone]
  split <;> omega

/-- An entry whose D count has come to at most K is CONFIRMED just at K (R100). -/
theorem EntryOk.confirmAt {h : MouldHeader} {e : SuspectEntry} (cycle : Half) (h1 : 1 ≤ e.window.length)
    (h2 : e.window.length ≤ h.n) (hdev : e.lastDev ≠ 0) (hd : dCount e.window ≤ h.k) (hstate : e.state = .suspect)
    (hnone : e.confirmedCycle = none) : EntryOk h (confirmAt h.k cycle e) := by
  unfold Machine.confirmAt
  split
  case isTrue hk => exact ⟨h1, h2, hdev, hk, rfl⟩
  case isFalse hk =>
    refine ⟨h1, h2, hdev, ?_⟩
    rw [hstate]
    exact ⟨Nat.lt_of_le_of_ne hd hk, hnone⟩

theorem confirmAt_name (k : Nat) (cycle : Half) (e : SuspectEntry) :
    (confirmAt k cycle e).slot = e.slot ∧ (confirmAt k cycle e).watchPoint = e.watchPoint := by
  unfold confirmAt
  split <;> exact ⟨rfl, rfl⟩

theorem EntryOk.of_suspect {h : MouldHeader} {e : SuspectEntry} (he : EntryOk h e) (hs : e.state = .suspect) :
    1 ≤ e.window.length ∧ e.window.length ≤ h.n ∧ e.lastDev ≠ 0 ∧ dCount e.window < h.k ∧ e.confirmedCycle = none := by
  obtain ⟨h1, h2, h3, hstate⟩ := he
  rw [hs] at hstate
  exact ⟨h1, h2, h3, hstate⟩

/-! ### The results reach the list -/

namespace ListOk

variable {headers : Fin 16 → Option MouldHeader} {u : ListRun} {slot : Fin 16} {wp : Fin 24} {h : MouldHeader}

theorem deviate (hl : ListOk headers u.list) (hslot : headers slot = some h) (hk : 1 ≤ h.k) (hkn : h.k ≤ h.n) (cycle : Half)
    {dev : DevSet} (hdev : dev ≠ 0) : ListOk headers (u.deviate h.k h.n slot cycle wp dev).list := by
  unfold ListRun.deviate
  split
  case h_1 hnone =>
    split
    · obtain ⟨hs, hw⟩ := confirmAt_name h.k cycle ⟨slot, wp, .suspect, cycle, [.deviate], dev, none⟩
      exact hl.append hslot hs hw hnone (.confirmAt cycle le_rfl (hk.trans hkn) hdev hk rfl rfl)
    · exact hl
  case h_2 e hsome =>
    obtain ⟨hmem, hs, hw⟩ := entryFor_eq_some hsome
    obtain ⟨h', hh', hok⟩ := hl.entries e hmem
    rw [hs, hslot] at hh'
    obtain rfl := Option.some.inj hh'
    split
    case h_1 hstate =>
      obtain ⟨h1, h2, -, hd, hnone⟩ := hok.of_suspect hstate
      have hlen := length_pushWindow h1 h2 .deviate
      have hcount := dCount_pushWindow_le h.n e.window .deviate
      obtain ⟨hs', hw'⟩ := confirmAt_name h.k cycle { e with window := pushWindow h.n e.window .deviate, lastDev := dev }
      refine hl.updateEntry hslot (fun _ _ _ => ⟨hs'.trans hs, hw'.trans hw⟩) fun _ _ _ _ _ => ?_
      refine .confirmAt cycle hlen.1 hlen.2 hdev ?_ hstate hnone
      simp only [if_true] at hcount
      exact hcount.trans hd
    case h_2 hstate =>
      exact hl.updateEntry hslot (fun _ hs hw => ⟨hs, hw⟩) fun d _ _ _ ⟨h1, h2, _, hrest⟩ => ⟨h1, h2, hdev, hrest⟩

theorem clean (hl : ListOk headers u.list) (hslot : headers slot = some h) : ListOk headers (u.clean h.n slot wp).list := by
  unfold ListRun.clean
  split
  · exact hl
  case h_2 e hsome =>
    obtain ⟨hmem, hs, hw⟩ := entryFor_eq_some hsome
    obtain ⟨h', hh', hok⟩ := hl.entries e hmem
    rw [hs, hslot] at hh'
    obtain rfl := Option.some.inj hh'
    split
    · exact hl
    case h_2 hstate =>
      simp only
      split
      · exact hl.removeEntry slot wp
      · obtain ⟨h1, h2, hdev, hd, hnone⟩ := hok.of_suspect hstate
        obtain ⟨hlen1, hlen2⟩ := length_pushWindow h1 h2 .clean
        have hcount := dCount_pushWindow_le h.n e.window .clean
        refine hl.updateEntry hslot (fun _ _ _ => ⟨hs, hw⟩) fun _ _ _ _ _ => ⟨hlen1, hlen2, hdev, ?_⟩
        rw [show (cleanEntry h.n e).state = .suspect from hstate]
        exact ⟨hcount.trans_lt hd, hnone⟩

theorem take (hl : ListOk headers u.list) (hslot : headers slot = some h) (hk : 1 ≤ h.k) (hkn : h.k ≤ h.n) (cycle : Half)
    {x : SummaryEntry} (hdev : x.verdict = .deviate → x.deviations ≠ 0) : ListOk headers (u.take h slot cycle x).list := by
  unfold ListRun.take
  split
  case h_1 hv => exact hl.deviate hslot hk hkn cycle (hdev hv)
  · exact hl.clean hslot
  · exact hl
  · exact hl

theorem listRun {list : List SuspectEntry} (hl : ListOk headers list) (hslot : headers slot = some h) (hk : 1 ≤ h.k)
    (hkn : h.k ≤ h.n) (cycle : Half) {xs : List SummaryEntry} (hdev : ∀ x ∈ xs, x.verdict = .deviate → x.deviations ≠ 0) :
    ListOk headers (listRun list h slot cycle xs).list :=
  List.foldlRecOn (motive := fun u : ListRun => ListOk headers u.list) xs _ hl
    fun _ hu x hx => hu.take hslot hk hkn cycle (hdev x hx)

end ListOk

theorem mappedResult_deviations {silenced : BitVec 8} {h : MouldHeader} {p : Profile} {m : Mapping} {x : Accumulator}
    (hv : (mappedResult silenced h p m x).verdict = .deviate) : (mappedResult silenced h p m x).deviations ≠ 0 := by
  have hb := mappedResult_verdict_ne_blind_iff.mp (fun he => Verdict.noConfusion (hv.symm.trans he))
  obtain ⟨hverdict, hdev, -⟩ := mappedResult_of_blindCauses_eq_zero (p := p) hb
  rw [hverdict] at hv
  rw [hdev]
  split at hv
  · cases hv
  case isFalse hne => exact hne

/-- A DEVIATE result has a deviation (R80). -/
theorem judgeAll_deviations {r : CycleRecord} {m : MouldRecord} {x : SummaryEntry} (hx : x ∈ judgeAll r m)
    (hv : x.verdict = .deviate) : x.deviations ≠ 0 := by
  obtain ⟨p, -, rfl⟩ := List.mem_map.mp hx
  unfold judgeProfile at hv ⊢
  split
  case h_1 ha =>
    rw [ha] at hv
    cases hv
  case h_2 a ha =>
    rw [ha] at hv
    split
    case h_1 hm =>
      simp only [hm] at hv
      cases hv
    case h_2 mp hm =>
      simp only [hm] at hv
      exact mappedResult_deviations hv

end Sys2Proof.Machine
end

section
/-! The channel table, the copies made under it, the open load, the mould table and the suspect list: every step keeps their
laws (R20, R21, R27, R56 to R59, R92, R94, R177, R185). -/

namespace Sys2Proof.Machine

variable {s t : State}

/-- What the copies' law says of a trace buffer (R185, R186). -/
def TraceOk (entries : Nat) : Trace → Prop
  | .off => True
  | .running ch ring => ch < entries ∧ ring.length ≤ 64 ∧ ∀ c ∈ ring, c.entry = ch
  | .frozen ch ring => ch < entries ∧ ring.length ≤ 64 ∧ ∀ c ∈ ring, c.entry = ch

/-- A copy names an entry of the table, and its pod and channel are the entry's (R21, R24). -/
def CopyOk (channels : List ChannelEntry) (c : Copy) : Prop :=
  ∃ e, channels[c.entry]? = some e ∧ e.pod = c.pod ∧ e.channel = c.channel

/-- The laws of the tables, the copies, the open load and the suspect list, each in the form that speaks of one part. -/
structure TableLaws (s : State) : Prop where
  length   : s.tables.channels.length ≤ 32
  ranged   : ∀ e ∈ s.tables.channels, e.Ranged
  apart    : s.tables.channels.Pairwise ChannelEntry.Apart
  copies   : ∀ c ∈ s.exam, CopyOk s.tables.channels c
  halted   : s.engine.operating = .halted → s.exam = []
  trace    : TraceOk s.tables.channels.length s.trace
  load     : ∀ l, s.engine.load = some l → 1 ≤ l.remaining ∧ LoadOk s.engine.operating l
  moulds   : MouldLaw s
  suspects : ListOk s.headers s.suspects

theorem tableLaws_iff (s : State) :
    TableLaws s ↔ (ChannelLaw s ∧ CopyLaw s ∧ LoadLaw s) ∧ MouldLaw s ∧ SuspectLaw s := by
  have htrace : TraceOk s.tables.channels.length s.trace ↔
      (match s.trace with
       | .off => True
       | .running ch ring => ch < s.tables.channels.length ∧ ring.length ≤ 64 ∧ ∀ c ∈ ring, c.entry = ch
       | .frozen ch ring => ch < s.tables.channels.length ∧ ring.length ≤ 64 ∧ ∀ c ∈ ring, c.entry = ch) := by
    cases s.trace <;> exact Iff.rfl
  rw [loadLaw_iff, suspectLaw_iff]
  constructor
  · rintro ⟨h1, h2, h3, h4, h5, h6, h7, h8, h9⟩
    exact ⟨⟨⟨h1, h2, h3⟩, ⟨h4, h5, htrace.mp h6⟩, h7⟩, h8, h9⟩
  · rintro ⟨⟨⟨h1, h2, h3⟩, ⟨h4, h5, h6⟩, h7⟩, h8, h9⟩
    exact ⟨h1, h2, h3, h4, h5, htrace.mpr h6, h7, h8, h9⟩

/-- A load that is well formed in WATCHING is so in HALTED (R183). -/
theorem LoadOk.halt {op : OpState} {l : OpenLoad} (h : LoadOk op l) : LoadOk .halted l := by
  unfold LoadOk at *
  split at h
  · exact ⟨rfl, h.2⟩
  · exact h

namespace TableLaws

/-! ### What the laws read -/

theorem congr (h : TableLaws s) (hchannels : t.tables.channels = s.tables.channels)
    (hop : t.engine.operating = s.engine.operating) (hload : t.engine.load = s.engine.load) (hexam : t.exam = s.exam)
    (htrace : t.trace = s.trace) (hmoulds : t.moulds = s.moulds) (hsuspects : t.suspects = s.suspects) : TableLaws t := by
  have hm (slot : Fin 16) : t.mould slot = s.mould slot := by rw [State.mould, hmoulds]; rfl
  have hh : t.headers = s.headers := by
    funext slot
    rw [State.headers, hm]
    rfl
  obtain ⟨h1, h2, h3, h4, h5, h6, h7, h8, h9⟩ := h
  refine ⟨hchannels ▸ h1, hchannels ▸ h2, hchannels ▸ h3, ?_, ?_, ?_, ?_, fun slot m hs => h8 slot m (hm slot ▸ hs), ?_⟩
  · rw [hexam, hchannels]; exact h4
  · rw [hop, hexam]; exact h5
  · rw [htrace, hchannels]; exact h6
  · rw [hload, hop]; exact h7
  · rw [hh, hsuspects]; exact h9

theorem linksOnly (h : TableLaws s) (hl : LinksOnly s t) : TableLaws t :=
  h.congr (by rw [hl.tables]) (by rw [hl.engine]) (by rw [hl.engine]) hl.exam hl.trace hl.moulds hl.suspects

theorem cycleOnly (h : TableLaws s) (hc : CycleOnly s t) : TableLaws t :=
  h.congr (by rw [hc.tables]) (by rw [hc.engine]) (by rw [hc.engine]) hc.exam hc.trace hc.moulds hc.suspects

theorem raise (h : TableLaws s) (c : Condition) : TableLaws (s.raise c) := h.linksOnly (s.raise_linksOnly c)

theorem setTrace (h : TableLaws s) {x : Trace} (hx : TraceOk s.tables.channels.length x) : TableLaws (s.setTrace x) :=
  { h with trace := hx }

theorem setLoad (h : TableLaws s) {x : Option OpenLoad}
    (hx : ∀ l, x = some l → 1 ≤ l.remaining ∧ LoadOk s.engine.operating l) : TableLaws (s.setLoad x) :=
  { h with load := hx }

end TableLaws

/-! ### Copies -/

theorem traceOk_offer {n : Nat} {tr : Trace} (h : TraceOk n tr) (c : Copy) : TraceOk n (tr.offer c) := by
  have hpush (ch : Nat) (ring : List Copy) (hlen : ring.length ≤ 64) (hring : ∀ d ∈ ring, d.entry = ch) (hc : c.entry = ch) :
      (ringPush ring c).length ≤ 64 ∧ ∀ d ∈ ringPush ring c, d.entry = ch := by
    unfold ringPush
    split
    case isTrue hroom =>
      refine ⟨by simpa using hroom, fun d hd => ?_⟩
      rcases List.mem_append.mp hd with hd | hd
      · exact hring d hd
      · rw [List.mem_singleton.mp hd]; exact hc
    · refine ⟨by simp; omega, fun d hd => ?_⟩
      rcases List.mem_append.mp hd with hd | hd
      · exact hring d (List.mem_of_mem_drop hd)
      · rw [List.mem_singleton.mp hd]; exact hc
  cases tr with
  | off => trivial
  | frozen ch ring => exact h
  | running ch ring =>
    obtain ⟨hch, hlen, hring⟩ := h
    unfold Trace.offer
    simp only
    split
    case isTrue hc => exact ⟨hch, hpush ch ring hlen hring hc⟩
    · exact ⟨hch, hlen, hring⟩

theorem traceOk_trigger {n : Nat} {tr : Trace} (h : TraceOk n tr) (trigger : TraceTrigger) (deviated confirmed : Bool) :
    TraceOk n (tr.trigger trigger deviated confirmed) := by
  cases tr with
  | off => trivial
  | frozen ch ring => exact h
  | running ch ring =>
    cases trigger with
    | manual => exact h
    | onDeviate => cases deviated <;> exact h
    | onConfirm => cases confirmed <;> exact h

theorem copyOk_of_copyOf {channels : List ChannelEntry} {f : Frame} {c : Copy} (h : copyOf channels f = some c) :
    CopyOk channels c := by
  unfold copyOf at h
  split at h
  case h_1 i phase _ _ =>
    split at h
    case h_1 e he =>
      cases h
      exact ⟨e, he, rfl, rfl⟩
    · cases h
  · cases h

namespace TableLaws

theorem offerCopy (h : TableLaws s) (f : Frame) : TableLaws (s.offerCopy f) := by
  unfold State.offerCopy
  split
  case h_1 c hw hc =>
    split
    · refine { h with copies := fun d hd => ?_, halted := fun hh => ?_ }
      · rcases List.mem_append.mp hd with hd | hd
        · exact h.copies d hd
        · rw [List.mem_singleton.mp hd]; exact copyOk_of_copyOf hc
      · exact absurd ((State.watching_eq_true.mp hw).symm.trans hh) nofun
    · exact h.raise _
  · exact h

theorem examine (h : TableLaws s) {c : Copy} {rest : List Copy} (he : s.exam = c :: rest) : TableLaws (s.examine c rest) := by
  have hqueue : TableLaws ((s.setExam rest).setTrace (s.trace.offer c)) := by
    refine { h with copies := fun d hd => h.copies d ?_, halted := fun hh => ?_, trace := traceOk_offer h.trace c }
    · rw [he]; exact List.mem_cons_of_mem c hd
    · exact absurd ((h.halted hh).symm.trans he) nofun
  exact hqueue.cycleOnly (State.applyBlock_cycleOnly _ c)

/-! ### Judgement -/

theorem setMould_headers {slot : Fin 16} {m m' : MouldRecord} (hm : s.mould slot = some m) (hh : m'.header = m.header) :
    (s.setMould slot m').headers = s.headers := by
  funext k
  by_cases he : k = slot
  · rw [State.headers, State.headers, he, mould_setMould_same, hm, Option.map_some, Option.map_some, hh]
  · rw [State.headers, State.headers, mould_setMould_of_ne he]

theorem applyToSlot_headers (s : State) (list : List SuspectEntry) (slot : Fin 16) (xs : List SummaryEntry) :
    (s.applyToSlot list slot xs).headers = s.headers := by
  unfold State.applyToSlot
  split
  case h_1 m hm => exact setMould_headers hm rfl
  · rfl

theorem headers_congr (h : t.moulds = s.moulds) : t.headers = s.headers := by
  funext slot
  rw [State.headers, State.mould, h]
  rfl

/-- The completion of the judgement in progress (R81): the judged mould record is that of its slot (R73). -/
theorem completeJudgement (h : TableLaws s) (hjudged : JudgedLaw s) {j : Judging} (hj : s.verdict.judging = some j) :
    TableLaws (s.completeJudgement j) := by
  obtain ⟨slot', hslot', hmould⟩ := hjudged j hj
  unfold State.completeJudgement
  split
  case h_1 slot cycle hslot _ =>
    obtain rfl := Option.some.inj (hslot.symm.trans hslot')
    have hout := s.applyJudgement_judged j slot cycle
    obtain ⟨hk, hkn, -⟩ := h.moulds slot j.mould hmould
    have hheader : s.headers slot = some j.mould.header := by rw [State.headers, hmould]; rfl
    have hlist : ListOk s.headers (s.judgedRun j slot cycle).list :=
      h.suspects.listRun hheader hk hkn cycle fun x hx => judgeAll_deviations hx
    have hheaders : (s.applyJudgement j slot cycle).headers = s.headers :=
      (headers_congr hout.moulds).trans (applyToSlot_headers s _ _ _)
    have htrace : TraceOk s.tables.channels.length (s.applyJudgement j slot cycle).trace := by
      rw [hout.trace]
      unfold State.applyTrigger
      split
      · exact traceOk_trigger h.trace _ _ _
      · exact h.trace
    have happlied : TableLaws (s.applyJudgement j slot cycle) := by
      refine ⟨?_, ?_, ?_, ?_, ?_, ?_, ?_, fun k m hm => ?_, ?_⟩
      · rw [hout.tables]; exact h.length
      · rw [hout.tables]; exact h.ranged
      · rw [hout.tables]; exact h.apart
      · rw [hout.tables, hout.exam]; exact h.copies
      · rw [hout.engine, hout.exam]; exact h.halted
      · rw [hout.tables]; exact htrace
      · rw [hout.engine]; exact h.load
      · rw [State.mould, hout.moulds] at hm
        exact h.moulds.applyToSlot _ _ _ k m hm
      · rw [hheaders, hout.suspects]; exact hlist
    exact happlied.cycleOnly (State.endJudgement_cycleOnly _ _)
  · exact h.cycleOnly (s.endJudgement_cycleOnly _)

/-! ### Loads -/

/-- The channel table is replaced in HALTED, where no copy waits, and the trace goes OFF (R20, R27, R180). -/
theorem replaceChannels (h : TableLaws s) (hop : s.engine.operating = .halted) {xs : List ChannelEntry}
    (hlen : xs.length ≤ 32) (hranged : ∀ e ∈ xs, e.Ranged) (hapart : xs.Pairwise ChannelEntry.Apart) :
    TableLaws (s.replaceChannels xs) := by
  have hempty : (s.replaceChannels xs).exam = [] := h.halted hop
  refine { h with length := hlen, ranged := hranged, apart := hapart, copies := ?_, trace := trivial }
  rw [hempty]
  exact nofun

/-- A slot is replaced whole, and its suspect entries leave the list (R47, R66, R67). -/
theorem commitMould (h : TableLaws s) {slot : Fin 16} {m : MouldRecord} (hm : MouldOk m) : TableLaws (s.commitMould slot m) := by
  have hlist : ListOk (s.setMould slot m).headers (s.suspects.filter fun e => e.slot != slot) := by
    obtain ⟨hapart, hentries⟩ := h.suspects.filter fun e => e.slot != slot
    refine ⟨hapart, fun e he => ?_⟩
    have hne : e.slot ≠ slot := by simpa using (List.mem_filter.mp he).2
    rw [State.headers, mould_setMould_of_ne hne]
    exact hentries e he
  have hcommitted : TableLaws ((s.setMould slot m).setSuspects (s.suspects.filter fun e => e.slot != slot)) :=
    { h with moulds := h.moulds.setMould slot hm, suspects := hlist }
  unfold State.commitMould
  simp only
  split
  · exact hcommitted.cycleOnly (State.setMonitor_cycleOnly _ _)
  · exact hcommitted

theorem proceedLoad (h : TableLaws s) {l : OpenLoad} (hl : LoadOk s.engine.operating l) : TableLaws (proceedLoad l s).1 := by
  have hended : TableLaws (s.setLoad none) := h.setLoad nofun
  unfold Machine.proceedLoad commitLoad
  simp only
  split
  case isTrue hdone =>
    split
    case h_1 records hstaging =>
      simp only [LoadOk, hstaging] at hl
      obtain ⟨hop, hlen, hmax⟩ := hl
      split
      · exact hended
      case h_2 table htable =>
        obtain ⟨hranged, hapart, hsize⟩ := channelsCommit_ok htable nofun .nil
        refine hended.replaceChannels hop ?_ hranged hapart
        simp at hsize
        omega
    case h_2 slot header profiles hstaging =>
      simp only [LoadOk, hstaging] at hl
      obtain ⟨hlen, hw, -, hring⟩ := hl
      split
      · exact hended
      case h_2 m hm =>
        split
        · exact hended
        · exact hended.commitMould (mouldCommit_ok hm (by omega) hring)
  case isFalse hmore => exact h.setLoad fun _ he => Option.some.inj he ▸ ⟨Nat.one_le_iff_ne_zero.mpr hmore, hl⟩

/-! ### Requests -/

theorem enterWatching (h : TableLaws s) (hl : s.engine.load = none) : TableLaws s.enterWatching := by
  have hoperating : TableLaws (s.setOperating .watching) :=
    { h with halted := nofun, load := fun l he => absurd (hl.symm.trans he) nofun }
  exact (hoperating.cycleOnly (State.setTracker_cycleOnly _ _)).linksOnly (State.mapPods_linksOnly _ _)

theorem enterHalted (h : TableLaws s) : TableLaws s.enterHalted := by
  rw [State.enterHalted_eq]
  exact { h with
    copies := nofun
    halted := fun _ => rfl
    load := fun l he => ⟨(h.load l he).1, (h.load l he).2.halt⟩ }

theorem restarted (h : TableLaws s) : TableLaws s.restarted := by
  obtain ⟨hengine, htables, -, hexam, hmoulds, -, hsuspects, -, htrace⟩ := restarted_core s
  refine ⟨?_, ?_, ?_, ?_, fun _ => hexam, ?_, ?_, fun k m hm => h.moulds k m ?_, ?_⟩
  · rw [htables]; exact h.length
  · rw [htables]; exact h.ranged
  · rw [htables]; exact h.apart
  · rw [hexam]; exact nofun
  · rw [htrace]; trivial
  · rw [hengine]; exact nofun
  · rwa [State.mould, hmoulds] at hm
  · rw [headers_congr hmoulds, hsuspects]; exact h.suspects

theorem relearn (h : TableLaws s) {slot : Fin 16} {m : MouldRecord} (hm : s.mould slot = some m) (wp : Fin 24) :
    TableLaws ((s.releaseEntry slot wp).setMould slot (m.relearn wp)) := by
  refine { h with moulds := h.moulds.setMould slot ((h.moulds slot m hm).relearn wp), suspects := ?_ }
  have hheaders : ((s.releaseEntry slot wp).setMould slot (m.relearn wp)).headers = s.headers :=
    setMould_headers (s := s.releaseEntry slot wp) (m' := m.relearn wp) hm rfl
  rw [hheaders]
  exact h.suspects.removeEntry slot wp

/-- Every request's own part keeps the laws. -/
theorem asked (h : TableLaws s) (ht : Asked s t) : TableLaws t := by
  cases ht with
  | same => exact h
  | started _ hl _ => exact h.enterWatching hl
  | halted => exact h.enterHalted
  | restarted => exact h.restarted
  | noChannels hw => exact h.replaceChannels (State.watching_eq_false.mp hw) (Nat.zero_le _) nofun .nil
  | proceeded l hok => exact h.proceedLoad (hok ((loadLaw_iff s).mpr h.load))
  | aborted => exact h.setLoad nofun
  | released slot wp => exact { h with suspects := h.suspects.removeEntry slot wp }
  | relearned slot wp m _ hm => exact h.relearn hm wp
  | selected i hi => exact h.setTrace ⟨hi, Nat.zero_le _, nofun⟩
  | frozen ch ring ht =>
    have hring := h.trace
    rw [ht] at hring
    exact h.setTrace hring
  | unfrozen ch ring ht =>
    have hch : ch < s.tables.channels.length := by
      have hring := h.trace
      rcases ht with ht | ht <;> rw [ht] at hring <;> exact hring.1
    exact h.setTrace ⟨hch, Nat.zero_le _, nofun⟩
  | untraced => exact h.setTrace trivial
  | setup | bandSets | confirmed | cleared | enabled => exact h.congr rfl rfl rfl rfl rfl rfl rfl

/-! ### Frames -/

theorem routeU (h : TableLaws s) (f : Frame) : TableLaws (s.routeU f) := by
  unfold State.routeU State.routeDown State.routeSample
  simp only
  split
  · exact h.raise _
  · split
    · split
      · split
        · exact (h.offerCopy f).linksOnly (State.offerForward_linksOnly _ _)
        · exact h.offerCopy f
      · exact (h.raise _).linksOnly (State.offerForward_linksOnly _ _)
    · exact h.linksOnly (s.offerForward_linksOnly _)

theorem routeOwn (h : TableLaws s) (f : Frame) : TableLaws (s.routeOwn f) := by
  unfold State.routeOwn State.offerInbox
  split
  · split
    · exact h.congr rfl rfl rfl rfl rfl rfl rfl
    · exact h.raise _
  · exact h.raise _

theorem routeD (h : TableLaws s) (f : Frame) : TableLaws (s.routeD f) := by
  unfold State.routeD State.routeUp State.routeMark
  split
  · exact h.raise _
  · split
    · exact h.routeOwn f
    · split
      · split
        · exact (h.cycleOnly (s.showMark_cycleOnly f)).linksOnly (State.offerUpward_linksOnly _ _)
        · exact (h.raise _).linksOnly (State.offerUpward_linksOnly _ _)
      · exact h.linksOnly (s.offerUpward_linksOnly _)

theorem receiveEnd (h : TableLaws s) (p : Port) : TableLaws (s.receiveEnd p) := by
  have hframing (x : Framing) : TableLaws (s.setFraming p x) := h.linksOnly (s.setFraming_linksOnly p x)
  unfold State.receiveEnd
  split
  · exact h.raise _
  · simp only
    split
    · cases p
      · exact ((hframing _).linksOnly (State.podHears_linksOnly _ _)).routeU _
      · exact (hframing _).routeD _
    · exact (hframing _).raise _
  · exact hframing _

end TableLaws

/-! ### Every effect -/

theorem mould_resetBy (s : State) (cause : ResetCause) (pins : Pins) (slot : Fin 16) :
    (s.resetBy cause pins).mould slot = none := by
  simp [State.resetBy, State.afterReset, State.mould]

theorem tableLaws_resetBy (s : State) (cause : ResetCause) (pins : Pins) : TableLaws (s.resetBy cause pins) := by
  refine ⟨Nat.zero_le _, nofun, .nil, nofun, fun _ => rfl, trivial, nofun, fun slot m hm => ?_, ⟨.nil, nofun⟩⟩
  rw [mould_resetBy] at hm
  cases hm

theorem Effect.tableLaws {u : State} (h : Effect s u) (hs : TableLaws s) (hjudged : JudgedLaw s) : TableLaws u := by
  have arrives (p : Port) : TableLaws (s.symbolArrives p) := hs.linksOnly (s.symbolArrives_linksOnly p)
  cases h with
  | reset cause pins => exact tableLaws_resetBy s cause pins
  | startSymbol p => exact (arrives p).linksOnly (State.receiveStart_linksOnly _ p)
  | frame p data => exact ((arrives p).linksOnly (State.dataRun_linksOnly _ p data)).receiveEnd p
  | dataSymbol p b => exact (arrives p).linksOnly (State.receiveData_linksOnly _ p b)
  | overlength p _ => exact ((arrives p).raise _).linksOnly (State.setFraming_linksOnly _ p _)
  | strayByte p => exact (arrives p).raise _
  | symbol p => exact arrives p
  | violation p => exact hs.linksOnly (s.breakFrame_linksOnly p)
  | hold p => exact (arrives p).linksOnly (State.hold_linksOnly _ p)
  | go p => exact (arrives p).linksOnly (State.release_linksOnly _ p)
  | idle p => exact ((arrives p).linksOnly (State.breakFrame_linksOnly _ p)).linksOnly (State.release_linksOnly _ p)
  | lost p => exact hs.linksOnly (s.loseSignal_linksOnly p)
  | sentFrame p => exact hs.linksOnly (s.endFrame_linksOnly p)
  | stall => exact hs.linksOnly s.stallExpires_linksOnly
  | silence p _ =>
    exact ((hs.linksOnly (s.mapPods_linksOnly _)).cycleOnly (State.joinSilenced_cycleOnly (s.silence p) p)).raise _
  | cycle i _ => exact hs.cycleOnly (s.cycleExpires_cycleOnly i)
  | grace i _ => exact hs.cycleOnly (s.graceExpires_cycleOnly i)
  | judged j hj => exact hs.completeJudgement hjudged hj
  | examined c rest he => exact hs.examine he
  | rawChange x => exact hs.cycleOnly (s.rawChanges_cycleOnly x)
  | debounced x => exact hs.cycleOnly (s.debounceExpires_cycleOnly x)
  | loadTimer => exact (hs.setLoad (x := none) nofun).raise _
  | request r rest t a _ _ ht =>
    have hpopped : TableLaws (s.popped rest) := hs.congr rfl rfl rfl rfl rfl rfl rfl
    exact (hpopped.asked ht).linksOnly (State.placeOwn_linksOnly t _)

/-! ### Every step -/

/-- The laws of the core: the tables and lists, and the records, the monitor and the carried slots. -/
theorem step_core {s t : State} (hs : Sound s) (hstep : step s = .next t) : TableLaws t ∧ CycleLaw t := by
  obtain ⟨-, -, -, -, -, hrecord, hchannel, hcopy, hload, hmould, hmonitor, hcarried, hsuspect, -, -⟩ := hs
  have htable : TableLaws s := (tableLaws_iff s).mpr ⟨⟨hchannel, hcopy, hload⟩, hmould, hsuspect⟩
  have hcycle : CycleLaw s := (cycleLaw_iff s).mpr ⟨hrecord, hmonitor, hcarried⟩
  rcases step_cases hstep with rfl | ⟨rest, rfl | ⟨u, heff, rfl⟩⟩
  · exact ⟨htable.linksOnly s.symbolBoundary_linksOnly, hcycle.linksOnly s.symbolBoundary_linksOnly⟩
  · exact ⟨htable.congr rfl rfl rfl rfl rfl rfl rfl,
      hcycle.congr (fun _ => rfl) rfl rfl hcycle.records.ready rfl rfl⟩
  · have hwaiting : TableLaws (s.setPending rest) := htable.congr rfl rfl rfl rfl rfl rfl rfl
    have hrecords : CycleLaw (s.setPending rest) := hcycle.congr (fun _ => rfl) rfl rfl hcycle.records.ready rfl rfl
    have hopen : LoadLaw (s.setPending rest) := hload
    exact ⟨(heff.tableLaws hwaiting hrecords.judged).linksOnly (State.settle_linksOnly u _),
      (heff.cycleLaw hrecords hopen).linksOnly (State.settle_linksOnly u _)⟩

/-- Settles O56: the records' law, kept together with the laws it reads (`Effect.cycleLaw`). -/
theorem stepsKeepTheRecords : Obligations.StepsKeepTheRecords := fun _ t hs hstep =>
  ((cycleLaw_iff t).mp (step_core hs hstep).2).1

/-- Settles O57: a CHANNELS load commits in HALTED alone, where no copy waits and the trace goes OFF with the table. -/
theorem stepsKeepChannelsCopiesAndLoads : Obligations.StepsKeepChannelsCopiesAndLoads := fun _ t hs hstep =>
  ((tableLaws_iff t).mp (step_core hs hstep).1).1

/-- Settles O58: a commit, a drift step and a relearn each write a record in its ranges. -/
theorem stepsKeepTheMoulds : Obligations.StepsKeepTheMoulds := fun _ t hs hstep =>
  ((tableLaws_iff t).mp (step_core hs hstep).1).2.1

/-- Settles O60: each result that reaches the list keeps names apart and windows within K and N (`ListOk.take`). -/
theorem stepsKeepTheSuspectList : Obligations.StepsKeepTheSuspectList := fun _ t hs hstep =>
  ((tableLaws_iff t).mp (step_core hs hstep).1).2.2

end Sys2Proof.Machine
end

section
/-! The pods and the ports (R133, R135, R137, R143 to R148): every step keeps their laws. Queues, routers and the end of a step
touch neither a receiver nor the stall timing; they start frames, and move port U's sent flow state with the pods' timers. -/

namespace Sys2Proof.Machine

/-! ### The law of pods -/

/-- The timer of a LIVE present pod in WATCHING under a sent flow state of port U (R148). -/
def State.timerUnder (s : State) (flow : TxFlow) (p : PodId) : SilenceTimer :=
  match flow with
  | .go => s.freshTimer p
  | .hold => .suspended

/-- The law of pods for one pod: `active` in WATCHING for a present pod, `timer` what a LIVE one holds (R144, R146, R148). -/
structure PodFits (active : Prop) (timer : SilenceTimer) (x : Pod) : Prop where
  live   : active → x.state = .live → x.timer = timer
  silent : active → x.state = .silent → x.timer = .stopped
  rest   : ¬active → x = Pod.reset

theorem podLaw_iff (s : State) :
    PodLaw s ↔
      ∀ p : PodId, PodFits (s.watching = true ∧ s.podPresent p = true) (s.timerUnder s.portU.txFlow p) s.pods[p] := by
  refine forall_congr' fun p => ?_
  unfold PodOk State.timerUnder
  by_cases hactive : s.watching = true ∧ s.podPresent p = true
  · rw [if_pos hactive]
    constructor
    · intro h
      refine ⟨fun _ hs => ?_, fun _ hs => ?_, fun hn => absurd hactive hn⟩ <;> rwa [hs] at h
    · rintro ⟨hlive, hsilent, -⟩
      split
      case h_1 hs => exact hlive hactive hs
      case h_2 hs => exact hsilent hactive hs
  · rw [if_neg hactive]
    exact ⟨fun h => ⟨fun ha => absurd ha hactive, fun ha => absurd ha hactive, fun _ => h⟩, fun h => h.rest hactive⟩

theorem podFits_reset {active : Prop} {timer : SilenceTimer} (h : ¬active) : PodFits active timer Pod.reset :=
  ⟨fun ha => absurd ha h, fun ha => absurd ha h, fun _ => rfl⟩

/-- The timers of the LIVE present pods change together (R148). -/
theorem PodFits.retime {active : Prop} {timer : SilenceTimer} {x : Pod} (h : PodFits active timer x) {present : Bool}
    (hactive : active ↔ present = true) (z : SilenceTimer) :
    PodFits active z (if present && x.state == .live then { x with timer := z } else x) := by
  obtain ⟨-, hsilent, hrest⟩ := h
  split
  case isTrue hboth =>
    obtain ⟨hpresent, hstate⟩ := Bool.and_eq_true_iff.mp hboth
    refine ⟨fun _ _ => rfl, fun _ hs => ?_, fun hn => absurd (hactive.mpr hpresent) hn⟩
    exact absurd ((beq_iff_eq.mp hstate).symm.trans hs) nofun
  case isFalse hboth =>
    exact ⟨fun ha hs => absurd (by simp [hactive.mp ha, hs]) hboth, hsilent, hrest⟩

@[simp] theorem mapPods_getElem (s : State) (f : PodId → Pod → Pod) (p : PodId) :
    (s.mapPods f).pods[p] = f p s.pods[p] := by
  simp [State.mapPods, State.setPods]

section
variable {s t : State}

theorem podPresent_congr (h : t.tables.setup = s.tables.setup) (p : PodId) : t.podPresent p = s.podPresent p := by
  simp only [State.podPresent, State.podSetup, h]

theorem freshTimer_congr (h : t.tables.setup = s.tables.setup) (p : PodId) : t.freshTimer p = s.freshTimer p := by
  simp only [State.freshTimer, State.podSetup, h]

theorem watching_congr (h : t.engine.operating = s.engine.operating) : t.watching = s.watching := by
  simp only [State.watching, h]

/-- The law of pods where the operating state, the pod table and port U's sent flow state are as before. -/
theorem PodLaw.congr_pods (h : PodLaw s) (hop : t.engine.operating = s.engine.operating)
    (hsetup : t.tables.setup = s.tables.setup) (hflow : t.portU.txFlow = s.portU.txFlow)
    (hpods : ∀ p : PodId, PodFits (s.watching = true ∧ s.podPresent p = true) (s.timerUnder s.portU.txFlow p) s.pods[p] →
      PodFits (s.watching = true ∧ s.podPresent p = true) (s.timerUnder s.portU.txFlow p) t.pods[p]) : PodLaw t := by
  rw [podLaw_iff] at h ⊢
  intro p
  have htimer : t.timerUnder t.portU.txFlow p = s.timerUnder s.portU.txFlow p := by
    unfold State.timerUnder
    rw [hflow, freshTimer_congr hsetup]
  rw [watching_congr hop, podPresent_congr hsetup, htimer]
  exact hpods p (h p)

theorem PodLaw.congr (h : PodLaw s) (hop : t.engine.operating = s.engine.operating)
    (hsetup : t.tables.setup = s.tables.setup) (hflow : t.portU.txFlow = s.portU.txFlow) (hpods : t.pods = s.pods) :
    PodLaw t :=
  h.congr_pods hop hsetup hflow fun p hp => by rw [hpods]; exact hp

/-- The timers of the pods follow port U's sent flow state (R148). -/
theorem PodLaw.setForward (h : PodLaw s) (q : List (List Byte)) : PodLaw (s.setForward q) := by
  have hpods := s.setForward_pods q
  rw [State.setForward_eq]
  generalize (s.setForward q).pods = pods at hpods
  generalize nextTxFlow 6 2 s.portU.txFlow q.length = flow at hpods
  by_cases hsame : flow = s.portU.txFlow
  · subst hsame
    refine h.congr rfl rfl rfl ?_
    rw [if_neg (fun hn => hn.2 rfl)] at hpods
    exact hpods
  · rw [podLaw_iff] at h ⊢
    intro p
    show PodFits (s.watching = true ∧ s.podPresent p = true) (s.timerUnder flow p) pods[p]
    by_cases hw : s.watching = true
    · rw [if_pos ⟨hw, hsame⟩] at hpods
      have hactive : s.watching = true ∧ s.podPresent p = true ↔ s.podPresent p = true := and_iff_right hw
      cases flow with
      | hold =>
        rw [hpods, State.suspendPods, mapPods_getElem]
        exact (h p).retime hactive _
      | go =>
        rw [hpods, State.resumePods, mapPods_getElem]
        exact (h p).retime hactive _
    · rw [if_neg (fun hn => hw hn.1)] at hpods
      rw [hpods, (h p).rest fun ha => hw ha.1]
      exact podFits_reset fun ha => hw ha.1

end

/-! ### What routing does to the links -/

/-- A port whose receiver is as before, and whose transmitter sends what it sent or starts a frame. -/
structure LinkPort.StartsOnly (p q : LinkPort) : Prop where
  framing     : q.framing = p.framing
  signal      : q.signal = p.signal
  signalTimer : q.signalTimer = p.signalTimer
  rxFlow      : q.rxFlow = p.rxFlow
  tx          : q.tx = p.tx ∨ ∃ bytes, q.tx = some (.start bytes)

namespace LinkPort.StartsOnly

theorem refl (p : LinkPort) : p.StartsOnly p := ⟨rfl, rfl, rfl, rfl, .inl rfl⟩

theorem trans {p q r : LinkPort} (h : p.StartsOnly q) (g : q.StartsOnly r) : p.StartsOnly r := by
  refine ⟨g.framing.trans h.framing, g.signal.trans h.signal, g.signalTimer.trans h.signalTimer, g.rxFlow.trans h.rxFlow, ?_⟩
  rcases g.tx with hg | hg
  · rw [hg]; exact h.tx
  · exact .inr hg

theorem receiverOk {p q : LinkPort} (h : p.StartsOnly q) (hp : ReceiverOk p) : ReceiverOk q := by
  unfold ReceiverOk
  rw [h.framing, h.signal, h.signalTimer, h.rxFlow]
  exact hp

theorem transmitterOk {p q : LinkPort} (h : p.StartsOnly q) (hp : TransmitterOk p) : TransmitterOk q := by
  intro x hx
  rcases h.tx with htx | ⟨bytes, htx⟩
  · exact hp x (htx.symm.trans hx)
  · obtain rfl := Option.some.inj (htx.symm.trans hx)
    exact Nat.zero_le _

end LinkPort.StartsOnly

/-- The links after frames have joined and left the queues: the receivers and the stall timing are as before, transmitters at
most start a frame, and the pods keep their law. -/
structure Relayed (s t : State) : Prop where
  portU : s.portU.StartsOnly t.portU
  portD : s.portD.StartsOnly t.portD
  stall : t.stall = s.stall
  pods  : PodLaw s → PodLaw t

namespace Relayed

theorem refl (s : State) : Relayed s s := ⟨.refl _, .refl _, rfl, id⟩

theorem trans {s t u : State} (h : Relayed s t) (g : Relayed t u) : Relayed s u :=
  ⟨h.portU.trans g.portU, h.portD.trans g.portD, g.stall.trans h.stall, fun hp => g.pods (h.pods hp)⟩

theorem portLaw {s t : State} (h : Relayed s t) (hs : PortLaw s) : PortLaw t := by
  obtain ⟨h1, h2, h3, h4, h5, h6⟩ := hs
  refine ⟨h.portU.receiverOk h1, h.portD.receiverOk h2, h.portU.transmitterOk h3, h.portD.transmitterOk h4, ?_, ?_⟩
  · rw [h.portD.rxFlow, h.stall]; exact h5
  · rw [h.stall]; exact h6

end Relayed

theorem CoreOnly.relayed {s t : State} (h : CoreOnly s t) (hop : t.engine.operating = s.engine.operating)
    (hsetup : t.tables.setup = s.tables.setup) : Relayed s t :=
  ⟨h.portU ▸ .refl _, h.portD ▸ .refl _, h.stall, fun hp => hp.congr hop hsetup (by rw [h.portU]) h.pods⟩

theorem CycleOnly.relayed {s t : State} (h : CycleOnly s t) : Relayed s t :=
  h.toCoreOnly.relayed (by rw [h.engine]) (by rw [h.tables])

namespace State

variable (s : State)

theorem raise_relayed (c : Condition) : Relayed s (s.raise c) := (s.raise_cycleOnly c).relayed

/-- A transmitter starts a frame. -/
theorem start_relayed (bytes : List Byte) : Relayed s (s.sendU bytes) ∧ Relayed s (s.sendD bytes) :=
  ⟨⟨⟨rfl, rfl, rfl, rfl, .inr ⟨bytes, rfl⟩⟩, .refl _, rfl, fun hp => hp.congr rfl rfl rfl rfl⟩,
    ⟨.refl _, ⟨rfl, rfl, rfl, rfl, .inr ⟨bytes, rfl⟩⟩, rfl, fun hp => hp.congr rfl rfl rfl rfl⟩⟩

theorem setPaths_relayed (x : Paths) : Relayed s (s.setPaths x) :=
  ⟨.refl _, .refl _, rfl, fun hp => hp.congr rfl rfl rfl rfl⟩

theorem setForward_relayed (q : List (List Byte)) : Relayed s (s.setForward q) := by
  refine ⟨?_, ?_, ?_, fun hp => hp.setForward q⟩
  · rw [setForward_eq]; exact ⟨rfl, rfl, rfl, rfl, .inl rfl⟩
  · rw [setForward_eq]; exact .refl _
  · rw [setForward_eq]

theorem setUpward_relayed (q : List (List Byte)) : Relayed s (s.setUpward q) :=
  ⟨.refl _, ⟨rfl, rfl, rfl, rfl, .inl rfl⟩, rfl, fun hp => hp.congr rfl rfl rfl rfl⟩

theorem decideD_relayed : Relayed s s.decideD := by
  have forward (f : List Byte) (fs : List (List Byte)) (n : Nat) : Relayed s (s.grantForward f fs n) :=
    ((s.setForward_relayed fs).trans (setPaths_relayed _ _)).trans (start_relayed _ f).2
  have own (o : OwnFrame) (os : List OwnFrame) : Relayed s (s.grantOwn o os) :=
    ((s.setPaths_relayed _).trans (setPaths_relayed _ _)).trans (start_relayed _ _).2
  unfold decideD
  split
  · split
    · exact .refl s
    · exact forward _ _ _
    · exact own _ _
    · split
      · exact forward _ _ _
      · exact own _ _
  · exact .refl s

theorem startU_relayed : Relayed s s.startU := by
  unfold startU
  split
  · split
    · exact .refl s
    · exact (s.setUpward_relayed _).trans (start_relayed _ _).1
  · exact .refl s

theorem resumeTx_relayed (p : Port) : Relayed s (s.resumeTx p) := by
  cases p
  · exact s.startU_relayed
  · exact s.decideD_relayed

theorem offerForward_relayed (b : List Byte) : Relayed s (s.offerForward b) := by
  unfold offerForward
  split
  · exact (s.setForward_relayed _).trans (decideD_relayed _)
  · exact s.raise_relayed _

theorem offerUpward_relayed (b : List Byte) : Relayed s (s.offerUpward b) := by
  unfold offerUpward
  split
  · exact (s.setUpward_relayed _).trans (startU_relayed _)
  · exact s.raise_relayed _

theorem placeOwn_relayed (f : OwnFrame) : Relayed s (s.placeOwn f) := (s.setPaths_relayed _).trans (decideD_relayed _)

theorem offerNonReply_relayed (f : OwnFrame) : Relayed s (s.offerNonReply f) := by
  unfold offerNonReply
  split
  · exact s.placeOwn_relayed f
  · exact s.raise_relayed _

/-- The end of a step (R126). -/
theorem settle_relayed (before : State) : Relayed s (settle before s) := by
  have harise : Relayed s (causesArise before s) := ⟨.refl _, .refl _, rfl, fun hp => hp.congr rfl rfl rfl rfl⟩
  have hlines (t : State) : Relayed t t.driveLines := ⟨.refl _, .refl _, rfl, fun hp => hp.congr rfl rfl rfl rfl⟩
  refine (harise.trans ?_).trans (hlines _)
  unfold offerNotice
  split
  · exact offerNonReply_relayed _ _
  · exact .refl _

/-! ### Good frames and judgements -/

/-- A present pod that speaks in WATCHING is LIVE with its timer as port U's sent flow state says (R145, R148). -/
theorem podHears_relayed (f : Frame) : Relayed s (s.podHears f) := by
  unfold podHears
  split
  case h_1 p _ =>
    unfold speaksFor
    split
    case isTrue hactive =>
      refine ⟨.refl _, .refl _, rfl, fun hp => hp.congr_pods rfl rfl rfl fun q hq => ?_⟩
      rw [mapPods_getElem]
      split
      case isTrue he =>
        subst he
        exact ⟨fun _ _ => rfl, fun _ hs => (nomatch hs), fun hn => absurd (by simpa using hactive) hn⟩
      · exact hq
    · exact .refl s
  · exact .refl s

theorem offerCopy_relayed (f : Frame) : Relayed s (s.offerCopy f) := by
  unfold offerCopy
  split
  · split
    · exact (s.setExam_coreOnly _).relayed rfl rfl
    · exact s.raise_relayed _
  · exact .refl s

theorem routeU_relayed (f : Frame) : Relayed s (s.routeU f) := by
  unfold routeU routeDown routeSample
  simp only
  split
  · exact s.raise_relayed _
  · split
    · split
      · split
        · exact (s.offerCopy_relayed f).trans (offerForward_relayed _ _)
        · exact s.offerCopy_relayed f
      · exact (s.raise_relayed _).trans (offerForward_relayed _ _)
    · exact s.offerForward_relayed _

theorem routeD_relayed (f : Frame) : Relayed s (s.routeD f) := by
  unfold routeD routeUp routeOwn offerInbox routeMark
  split
  · exact s.raise_relayed _
  · split
    · split
      · split
        · exact (s.setEngine_coreOnly _).relayed rfl rfl
        · exact s.raise_relayed _
      · exact s.raise_relayed _
    · split
      · split
        · exact (s.showMark_cycleOnly f).relayed.trans (offerUpward_relayed _ _)
        · exact (s.raise_relayed _).trans (offerUpward_relayed _ _)
      · exact s.offerUpward_relayed _

theorem handOn_relayed (p : Port) (f : Frame) : Relayed s (s.handOn p f) := by
  cases p
  · exact (s.podHears_relayed f).trans (routeU_relayed _ f)
  · exact s.routeD_relayed f

theorem applyJudgement_relayed (j : Judging) (slot : Fin 16) (cycle : Half) : Relayed s (s.applyJudgement j slot cycle) := by
  have hslot (t : State) (list : List SuspectEntry) (xs : List SummaryEntry) : Relayed t (t.applyToSlot list slot xs) := by
    unfold applyToSlot
    split
    · exact (t.setMoulds_coreOnly _).relayed rfl rfl
    · exact .refl t
  have hfinding (t : State) (x : Summary) : Relayed t (t.offerFinding x) := by
    unfold offerFinding
    split
    · exact t.offerNonReply_relayed _
    · exact .refl t
  have htrigger (t : State) (u : ListRun) (xs : List SummaryEntry) : Relayed t (t.applyTrigger u xs) := by
    unfold applyTrigger
    split
    · exact (t.setTrace_coreOnly _).relayed rfl rfl
    · exact .refl t
  have hraise (t : State) (u : ListRun) (a b : Bool) : Relayed t (t.raiseJudged u a b) :=
    ((((t.raiseIf_cycleOnly _ _).trans (raiseIf_cycleOnly _ _ _)).trans (raiseIf_cycleOnly _ _ _)).trans
      (raiseIf_cycleOnly _ _ _)).trans (raiseIf_cycleOnly _ _ _) |>.relayed
  have hlist : Relayed s (s.setSuspects (s.judgedRun j slot cycle).list) := (s.setSuspects_coreOnly _).relayed rfl rfl
  have hsummary (t : State) (x : Summary) : Relayed t (t.replaceSummary x) := (t.setVerdict_cycleOnly _).relayed
  exact ((((hlist.trans (hslot _ _ _)).trans (hsummary _ _)).trans (hfinding _ _)).trans (htrigger _ _ _)).trans
    (hraise _ _ _ _)

theorem completeJudgement_relayed (j : Judging) : Relayed s (s.completeJudgement j) := by
  unfold completeJudgement
  split
  · exact (s.applyJudgement_relayed j _ _).trans (endJudgement_cycleOnly _ _).relayed
  · exact (s.endJudgement_cycleOnly _).relayed

end State

end Sys2Proof.Machine
end

section
/-! What the symbols, the timers and the requests do to pods and ports, and the statement about every step (R133, R135, R137,
R143, R144, R146). -/

namespace Sys2Proof.Machine

/-- The laws of the pods and of the ports together. -/
structure LinkLaws (s : State) : Prop where
  pods  : PodLaw s
  ports : PortLaw s

namespace LinkLaws

variable {s t : State}

theorem relayed (h : LinkLaws s) (hr : Relayed s t) : LinkLaws t := ⟨hr.pods h.pods, hr.portLaw h.ports⟩

theorem raise (h : LinkLaws s) (c : Condition) : LinkLaws (s.raise c) := h.relayed (s.raise_relayed c)

/-- A receiver changes, and its flow states and transmitter do not. -/
theorem setPort (h : LinkLaws s) (p : Port) {x : LinkPort} (hx : ReceiverOk x) (htx : TransmitterOk x)
    (hflow : x.txFlow = (s.port p).txFlow) (hstall : x.rxFlow = .released → (s.port p).rxFlow = .released) :
    LinkLaws (s.setPort p x) := by
  obtain ⟨hpods, h1, h2, h3, h4, h5, h6⟩ := h
  cases p
  · exact ⟨hpods.congr rfl rfl hflow rfl, hx, h2, htx, h4, h5, h6⟩
  · exact ⟨hpods.congr rfl rfl rfl rfl, h1, hx, h3, htx, fun hr => h5 (hstall hr), h6⟩

theorem receiverOk (h : LinkLaws s) (p : Port) : ReceiverOk (s.port p) := by
  obtain ⟨-, h1, h2, -⟩ := h
  cases p
  · exact h1
  · exact h2

theorem transmitterOk (h : LinkLaws s) (p : Port) : TransmitterOk (s.port p) := by
  obtain ⟨-, -, -, h3, h4, -⟩ := h
  cases p
  · exact h3
  · exact h4

/-! ### Receivers -/

theorem symbolArrives (h : LinkLaws s) (p : Port) :
    LinkLaws (s.symbolArrives p) ∧ ((s.symbolArrives p).port p).signal = .present := by
  obtain ⟨-, -, hlen⟩ := h.receiverOk p
  refine ⟨h.setPort p ⟨rfl, nofun, hlen⟩ (h.transmitterOk p) rfl id, ?_⟩
  cases p <;> rfl

/-- The framing changes where there is signal, or to BETWEEN. -/
theorem setFraming (h : LinkLaws s) (p : Port) {x : Framing} (hsignal : (s.port p).signal = .present ∨ x = .between)
    (hlen : ∀ bytes, x = .inFrame bytes → bytes.length ≤ 246) : LinkLaws (s.setFraming p x) := by
  obtain ⟨htimer, hlost, -⟩ := h.receiverOk p
  refine h.setPort p ⟨htimer, fun hl => ⟨?_, (hlost hl).2⟩, hlen⟩ (h.transmitterOk p) rfl id
  exact hsignal.resolve_left (fun hp => absurd (hl.symm.trans hp) nofun)

theorem setFraming_between (h : LinkLaws s) (p : Port) : LinkLaws (s.setFraming p .between) :=
  h.setFraming p (.inr rfl) nofun

theorem signal_setFraming (s : State) (p : Port) (x : Framing) : ((s.setFraming p x).port p).signal = (s.port p).signal := by
  cases p <;> rfl

theorem receiveStart (h : LinkLaws s) (p : Port) (hsignal : (s.port p).signal = .present) : LinkLaws (s.receiveStart p) := by
  have hstart (t : State) (ht : LinkLaws t) (hs : (t.port p).signal = .present) : LinkLaws (t.setFraming p (.inFrame [])) :=
    ht.setFraming p (.inl hs) fun bytes hb => by cases hb; exact Nat.zero_le _
  unfold State.receiveStart
  split
  · exact hstart s h hsignal
  · exact hstart _ (h.raise _) (by rw [State.port_raise]; exact hsignal)
  · exact hstart s h hsignal

/-- A data symbol: the signal stays, and the 247th byte is not kept (R135). -/
theorem receiveData (h : LinkLaws s) (p : Port) (hsignal : (s.port p).signal = .present) (b : Byte) :
    LinkLaws (s.receiveData p b) ∧ ((s.receiveData p b).port p).signal = .present := by
  unfold State.receiveData
  split
  · exact ⟨h.raise _, by rw [State.port_raise]; exact hsignal⟩
  case h_2 bytes hb =>
    split
    case isTrue hroom =>
      refine ⟨h.setFraming p (.inl hsignal) fun bytes' he => ?_, by rw [signal_setFraming]; exact hsignal⟩
      cases he
      rw [List.length_append]
      exact hroom
    · have hkept : ((s.raise .linkFault).port p).signal = .present := by rw [State.port_raise]; exact hsignal
      exact ⟨(h.raise _).setFraming p (.inl hkept) nofun, by rw [signal_setFraming]; exact hkept⟩
  · exact ⟨h, hsignal⟩

theorem dataRun (h : LinkLaws s) (p : Port) (hsignal : (s.port p).signal = .present) (data : List Byte) :
    LinkLaws (data.foldl (fun u b => u.receiveData p b) s) :=
  (List.foldlRecOn (motive := fun u => LinkLaws u ∧ (u.port p).signal = .present) data _ ⟨h, hsignal⟩
    fun _ hu b _ => hu.1.receiveData p hu.2 b).1

theorem receiveEnd (h : LinkLaws s) (p : Port) : LinkLaws (s.receiveEnd p) := by
  unfold State.receiveEnd
  split
  · exact h.raise _
  · simp only
    split
    · exact (h.setFraming_between p).relayed (State.handOn_relayed _ p _)
    · exact (h.setFraming_between p).raise _
  · exact h.setFraming_between p

theorem breakFrame (h : LinkLaws s) (p : Port) : LinkLaws (s.breakFrame p) := by
  unfold State.breakFrame
  split
  · exact h.setFraming_between p
  · exact (h.raise _).setFraming_between p
  · exact h.setFraming_between p

/-! ### Flow control -/

/-- Held, with signal; on port D a held stretch begins (R142, R143). -/
theorem hold (h : LinkLaws s) (p : Port) (hsignal : (s.port p).signal = .present) : LinkLaws (s.hold p) := by
  obtain ⟨htimer, -, hlen⟩ := h.receiverOk p
  have hheld : ReceiverOk { s.port p with rxFlow := .held } :=
    ⟨htimer, fun hl => absurd (hl.symm.trans hsignal) nofun, hlen⟩
  have hset := h.setPort p hheld (h.transmitterOk p) rfl nofun
  unfold State.hold
  split
  · exact h
  · cases p
    · exact hset
    · obtain ⟨hpods, h1, h2, h3, h4, -, -⟩ := hset
      exact ⟨hpods.congr rfl rfl rfl rfl, h1, h2, h3, h4, nofun, nofun⟩

/-- Released, and the held stretch of port D ended (R142, R143). -/
theorem released (h : LinkLaws s) (p : Port) {x : LinkPort} (hx : ReceiverOk x) (htx : TransmitterOk x)
    (hflow : x.txFlow = (s.port p).txFlow) :
    LinkLaws ((match p with | .u => s.setPort p x | .d => (s.setPort p x).setStall ⟨none, false⟩).resumeTx p) := by
  obtain ⟨hpods, h1, h2, h3, h4, h5, h6⟩ := h
  cases p
  · have hset : LinkLaws (s.setPort .u x) := ⟨hpods.congr rfl rfl hflow rfl, hx, h2, htx, h4, h5, h6⟩
    exact hset.relayed (State.resumeTx_relayed _ .u)
  · have hset : LinkLaws ((s.setPort .d x).setStall ⟨none, false⟩) :=
      ⟨hpods.congr rfl rfl rfl rfl, h1, hx, h3, htx, fun _ => rfl, nofun⟩
    exact hset.relayed (State.resumeTx_relayed _ .d)

theorem release (h : LinkLaws s) (p : Port) : LinkLaws (s.release p) := by
  obtain ⟨htimer, hlost, hlen⟩ := h.receiverOk p
  have hok : ReceiverOk { s.port p with rxFlow := .released } := ⟨htimer, fun hl => ⟨(hlost hl).1, rfl⟩, hlen⟩
  have hout := h.released p hok (h.transmitterOk p) rfl
  unfold State.release
  split
  · exact h
  · cases p <;> exact hout

/-- The signal is lost: the frame in progress is discarded and the transmitter released (R137). -/
theorem loseSignal (h : LinkLaws s) (p : Port) : LinkLaws (s.loseSignal p) := by
  have hout : LinkLaws ((s.setPort p { s.port p with signal := .lost, signalTimer := none, framing := .between }).release p) := by
    unfold State.release
    split
    case isTrue hr =>
      have hrx : (s.port p).rxFlow = .released := by cases p <;> exact hr
      exact h.setPort p ⟨rfl, fun _ => ⟨rfl, hrx⟩, nofun⟩ (h.transmitterOk p) rfl id
    · have hreleased := h.released p (x := ⟨.between, .lost, none, .released, (s.port p).txFlow, (s.port p).flowDue,
        (s.port p).tx, (s.port p).sent⟩) ⟨rfl, fun _ => ⟨rfl, rfl⟩, nofun⟩ (h.transmitterOk p) rfl
      cases p <;> exact hreleased
  exact hout.raise _

/-! ### Transmitters and the stall timer -/

theorem endFrame (h : LinkLaws s) (p : Port) : LinkLaws (s.endFrame p) := by
  obtain ⟨_, _, heq⟩ := (s.port p).finish_frame
  have hset : LinkLaws (s.setPort p (s.port p).finish) := by
    rw [heq]
    exact h.setPort p (h.receiverOk p) nofun rfl id
  exact hset.relayed (State.resumeTx_relayed _ p)

theorem stallExpires (h : LinkLaws s) (hs : s.stall.timer.isSome = true) : LinkLaws s.stallExpires := by
  obtain ⟨hpods, h1, h2, h3, h4, h5, -⟩ := h
  have hset : LinkLaws (s.setStall ⟨none, true⟩) := by
    refine ⟨hpods.congr rfl rfl rfl rfl, h1, h2, h3, h4, fun hr => ?_, fun _ => rfl⟩
    rw [h5 hr] at hs
    cases hs
  exact hset.raise _

theorem symbolBoundary (h : LinkLaws s) : LinkLaws s.symbolBoundary := by
  have hreceiver (p : LinkPort) (hp : ReceiverOk p) : ReceiverOk p.boundary := by
    obtain ⟨_, _, _, heq⟩ := p.boundary_frame
    rw [heq]
    exact hp
  have hflow (p : LinkPort) : p.boundary.txFlow = p.txFlow ∧ p.boundary.rxFlow = p.rxFlow := by
    obtain ⟨_, _, _, heq⟩ := p.boundary_frame
    rw [heq]
    exact ⟨rfl, rfl⟩
  have hU : LinkLaws (s.setPort .u s.portU.boundary) :=
    h.setPort .u (hreceiver _ (h.receiverOk .u)) (LinkPort.boundary_transmitterOk (h.transmitterOk .u)) (hflow _).1
      (fun hr => (hflow _).2.symm.trans hr)
  exact hU.setPort .d (hreceiver _ (h.receiverOk .d)) (LinkPort.boundary_transmitterOk (h.transmitterOk .d)) (hflow _).1
    fun hr => (hflow _).2.symm.trans hr

/-! ### Pods -/

/-- In HALTED every pod is at rest, whatever the pod table says (R146). -/
theorem rest_of_halted (h : LinkLaws s) (hw : s.watching = false) (p : PodId) : s.pods[p] = Pod.reset :=
  ((podLaw_iff s).mp h.pods p).rest fun ha => absurd (hw.symm.trans ha.1) nofun

theorem podLaw_of_rest (hw : t.watching = false) (hp : ∀ p : PodId, t.pods[p] = Pod.reset) : PodLaw t := by
  rw [podLaw_iff]
  intro p
  rw [hp p]
  exact podFits_reset fun ha => absurd (hw.symm.trans ha.1) nofun

/-- A present pod falls SILENT in WATCHING (R146). -/
theorem silence (h : LinkLaws s) {p : PodId} (hs : s.silenceTimed p = true) : LinkLaws (s.silence p) := by
  have hactive : s.watching = true ∧ s.podPresent p = true := by
    simp only [State.silenceTimed, Bool.and_eq_true] at hs
    exact hs.1
  refine ⟨h.pods.congr_pods rfl rfl rfl fun q hq => ?_, h.ports⟩
  rw [State.silence, mapPods_getElem]
  split
  case isTrue he =>
    subst he
    exact ⟨fun _ hl => (nomatch hl), fun _ _ => rfl, fun hn => absurd hactive hn⟩
  · exact hq

/-- Every present pod starts LIVE, its timer afresh or suspended (R146, R148). -/
theorem enterWatching (h : LinkLaws s) (hw : s.watching = false) : LinkLaws s.enterWatching := by
  refine ⟨(podLaw_iff _).mpr fun p => ?_, h.ports⟩
  have hrest := h.rest_of_halted hw p
  have hpod : s.enterWatching.pods[p] =
      if s.podPresent p then ⟨.live, s.timerUnder s.portU.txFlow p⟩ else s.pods[p] := by
    rw [State.enterWatching, State.wakePods, mapPods_getElem]
    rfl
  show PodFits (true = true ∧ s.podPresent p = true) (s.timerUnder s.portU.txFlow p) _
  rw [hpod, hrest]
  split
  case isTrue hp => exact ⟨fun _ _ => rfl, fun _ hl => (nomatch hl), fun hn => absurd ⟨rfl, hp⟩ hn⟩
  case isFalse hp => exact podFits_reset fun ha => hp ha.2

theorem restarted (h : LinkLaws s) : LinkLaws s.restarted := by
  obtain ⟨-, hU, hD, hstall, hpods⟩ := s.restarted_links
  obtain ⟨hengine, -⟩ := restarted_core s
  obtain ⟨-, h1, h2, h3, h4, h5, h6⟩ := h
  refine ⟨podLaw_of_rest (by simp [State.watching, hengine]) fun p => by simp [hpods], ?_⟩
  unfold PortLaw
  rw [hU, hD, hstall]
  exact ⟨h1, h2, h3, h4, h5, h6⟩

/-! ### Requests -/

theorem core (h : LinkLaws s) (hc : CoreOnly s t) (hop : t.engine.operating = s.engine.operating)
    (hsetup : t.tables.setup = s.tables.setup) : LinkLaws t :=
  h.relayed (hc.relayed hop hsetup)

theorem proceedLoad_home (l : OpenLoad) (s : State) :
    (proceedLoad l s).1.engine.operating = s.engine.operating ∧ (proceedLoad l s).1.tables.setup = s.tables.setup := by
  unfold proceedLoad commitLoad State.commitMould
  simp only
  split
  · split
    · split <;> exact ⟨rfl, rfl⟩
    · split
      · exact ⟨rfl, rfl⟩
      · split
        · exact ⟨rfl, rfl⟩
        · split <;> exact ⟨rfl, rfl⟩
  · exact ⟨rfl, rfl⟩

theorem asked (h : LinkLaws s) (ht : Asked s t) : LinkLaws t := by
  cases ht with
  | same => exact h
  | started hw => exact h.enterWatching hw
  | halted =>
    rw [State.enterHalted_eq]
    exact ⟨podLaw_of_rest rfl fun p => by simp, h.ports⟩
  | restarted => exact h.restarted
  | setup su hw => exact ⟨podLaw_of_rest hw fun p => h.rest_of_halted hw p, h.ports⟩
  | bandSets pairs => exact h.core (s.replaceBandSets_coreOnly pairs) rfl rfl
  | noChannels => exact h.core (s.replaceChannels_coreOnly []) rfl rfl
  | proceeded l =>
    obtain ⟨hop, hsetup⟩ := proceedLoad_home l s
    exact h.core (s.proceedLoad_coreOnly l) hop hsetup
  | aborted => exact h.core (s.setLoad_coreOnly none) rfl rfl
  | confirmed => exact h.relayed (s.setMonitor_cycleOnly _).relayed
  | released => exact h.core (s.setSuspects_coreOnly _) rfl rfl
  | relearned => exact h.core ((s.setSuspects_coreOnly _).trans (State.setMoulds_coreOnly _ _)) rfl rfl
  | cleared | enabled => exact ⟨h.pods.congr rfl rfl rfl rfl, h.ports⟩
  | selected | frozen | unfrozen | untraced => exact h.core (s.setTrace_coreOnly _) rfl rfl

end LinkLaws

/-! ### Every effect and every step -/

theorem linkLaws_resetBy (s : State) (cause : ResetCause) (pins : Pins) : LinkLaws (s.resetBy cause pins) := by
  have hpods (p : PodId) : (s.resetBy cause pins).pods[p] = Pod.reset := by
    simp [State.resetBy, State.afterReset]
  exact ⟨LinkLaws.podLaw_of_rest rfl hpods, ⟨rfl, nofun, nofun⟩, ⟨rfl, nofun, nofun⟩, nofun, nofun, fun _ => rfl, nofun⟩

theorem Effect.linkLaws {s u : State} (h : Effect s u) (hs : LinkLaws s) : LinkLaws u := by
  cases h with
  | reset cause pins => exact linkLaws_resetBy s cause pins
  | startSymbol p =>
    obtain ⟨ha, hsignal⟩ := hs.symbolArrives p
    exact ha.receiveStart p hsignal
  | frame p data =>
    obtain ⟨ha, hsignal⟩ := hs.symbolArrives p
    exact (ha.dataRun p hsignal data).receiveEnd p
  | dataSymbol p b =>
    obtain ⟨ha, hsignal⟩ := hs.symbolArrives p
    exact (ha.receiveData p hsignal b).1
  | overlength p _ =>
    obtain ⟨ha, hsignal⟩ := hs.symbolArrives p
    exact (ha.raise _).setFraming p (.inl (by rw [State.port_raise]; exact hsignal)) nofun
  | strayByte p => exact (hs.symbolArrives p).1.raise _
  | symbol p => exact (hs.symbolArrives p).1
  | violation p => exact hs.breakFrame p
  | hold p =>
    obtain ⟨ha, hsignal⟩ := hs.symbolArrives p
    exact ha.hold p hsignal
  | go p => exact (hs.symbolArrives p).1.release p
  | idle p => exact ((hs.symbolArrives p).1.breakFrame p).release p
  | lost p => exact hs.loseSignal p
  | sentFrame p => exact hs.endFrame p
  | stall hst => exact hs.stallExpires hst
  | silence p hp => exact ((hs.silence hp).relayed (State.joinSilenced_cycleOnly _ p).relayed).raise _
  | cycle i => exact hs.relayed (s.cycleExpires_cycleOnly i).relayed
  | grace i => exact hs.relayed (s.graceExpires_cycleOnly i).relayed
  | judged j => exact hs.relayed (s.completeJudgement_relayed j)
  | examined c rest =>
    have hqueue : LinkLaws ((s.setExam rest).setTrace (s.trace.offer c)) :=
      hs.core ((s.setExam_coreOnly rest).trans (State.setTrace_coreOnly _ _)) rfl rfl
    exact hqueue.relayed (State.applyBlock_cycleOnly _ c).relayed
  | rawChange x => exact hs.relayed (s.rawChanges_cycleOnly x).relayed
  | debounced x => exact hs.relayed (s.debounceExpires_cycleOnly x).relayed
  | loadTimer => exact (hs.core (s.setLoad_coreOnly none) rfl rfl).raise _
  | request r rest t a _ _ ht =>
    have hpopped : LinkLaws (s.popped rest) := ⟨hs.pods.congr rfl rfl rfl rfl, hs.ports⟩
    exact (hpopped.asked ht).relayed (t.placeOwn_relayed _)

/-- Settles O59: the mould monitor and the carried slots with the records (`step_core`), the pods and ports by what each effect
does to the links. -/
theorem stepsKeepMonitorCarriedPodsAndPorts : Obligations.StepsKeepMonitorCarriedPodsAndPorts := by
  intro s t hs hstep
  obtain ⟨-, hmonitor, hcarried⟩ := (cycleLaw_iff t).mp (step_core hs hstep).2
  obtain ⟨-, -, -, -, -, -, -, -, -, -, -, -, -, hpods, hports⟩ := hs
  have hlinks : LinkLaws s := ⟨hpods, hports⟩
  have hafter : LinkLaws t := by
    rcases step_cases hstep with rfl | ⟨rest, rfl | ⟨u, heff, rfl⟩⟩
    · exact hlinks.symbolBoundary
    · exact ⟨hpods.congr rfl rfl rfl rfl, hports⟩
    · have hwaiting : LinkLaws (s.setPending rest) := ⟨hpods.congr rfl rfl rfl rfl, hports⟩
      exact (heff.linkLaws hwaiting).relayed (State.settle_relayed u _)
  exact ⟨hmonitor, hcarried, hafter.pods, hafter.ports⟩

end Sys2Proof.Machine
end

section
/-! The step, the resets and the end of a step (R114 to R126, R133, R141, R184). -/

namespace Sys2Proof.Machine

/-- Settles O1: `step` is `exec` on the queue's rest, and a symbol boundary by whether a flow symbol is due, a frame is in
progress, or neither. -/
theorem stepRunsFrontCommand : Obligations.StepRunsFrontCommand := by
  refine ⟨fun c rest s hs => ?_, fun s hs => ?_⟩
  · simp only [step, hs]
    rfl
  · intro after
    have hafter (p : LinkPort) : p.boundary = after p := by
      cases hdue : p.flowDue with
      | true =>
        simp only [after, hdue, if_true, LinkPort.boundary]
        cases p.txFlow <;> rfl
      | false =>
        cases htx : p.tx with
        | none =>
          simp only [after, hdue, htx, LinkPort.boundary, LinkPort.restSymbol, Bool.false_eq_true, if_false] <;> rfl
        | some x =>
          rw [LinkPort.boundary_of_frame hdue htx]
          simp only [after, hdue, htx, Bool.false_eq_true, if_false] <;> rfl
    calc step s
      _ = .next s.symbolBoundary := by simp only [step, hs]
      _ = .next { s with portU := s.portU.boundary, portD := s.portD.boundary } := rfl
      _ = .next { s with portU := after s.portU, portD := after s.portD } := by rw [hafter, hafter]

/-! ### Resets -/

namespace State

theorem standing_eq_zero {s : State} (h : ∀ c, s.causeHolds c = false) : s.standing = 0 :=
  (CondSet.eq_zero_iff _).mpr fun c => (isIn_standing s c).trans (h c)

theorem anyOfClass_of_no_flag {s : State} (h : s.cond.flags = 0) (x : CondClass) : s.anyOfClass x = false := by
  refine Bool.eq_false_iff.mpr fun hx => ?_
  obtain ⟨c, hc, -⟩ := anyOfClass_iff.mp hx
  rw [h, Condition.isIn_zero] at hc
  cases hc

/-- With no flag set, no mould confirmed, every line is released (R121, R122). -/
theorem evalLines_of_no_flag {s : State} (h : s.cond.flags = 0) (hm : s.mouldConfirmed = false) :
    s.evalLines = ⟨false, 0⟩ := by
  have hnone := anyOfClass_of_no_flag h
  have hcoded : s.codedNumber = 0 := codedNumber_of_not_shown fun c hc => by
    have := hc.1
    rw [h, Condition.isIn_zero] at this
    cases this
  have hcrack : Condition.crack.isIn s.cond.flags = false := by rw [h, Condition.isIn_zero]
  have hsplit : s.splitSignals = 0 := by
    unfold splitSignals
    rw [hnone, hnone, hnone, hcrack, hm]
    rfl
  unfold evalLines
  rw [hnone, hsplit, hcoded]
  cases s.straps.sigMode <;> rfl

/-- The end of a step leaves a reset state as it is: no cause holds and no flag is set. -/
theorem settle_resetBy (s : State) (cause : ResetCause) (pins : Pins) :
    settle s (s.resetBy cause pins) = s.resetBy cause pins := by
  have hstanding : (s.resetBy cause pins).standing = 0 := standing_eq_zero (s.resetBy_causeHolds cause pins)
  have hlines : (s.resetBy cause pins).evalLines = ⟨false, 0⟩ := evalLines_of_no_flag rfl rfl
  have harise : causesArise s (s.resetBy cause pins) = s.resetBy cause pins := by
    have hflags : (s.resetBy cause pins).cond.flags ||| ((s.resetBy cause pins).standing &&& ~~~s.standing) = 0 := by
      rw [hstanding]
      simp [resetBy, afterReset]
    unfold causesArise
    rw [hflags]
    rfl
  have hattention : (s.resetBy cause pins).attention = false := by
    show ((0 : CondSet) &&& 0 != 0) = false
    decide
  unfold settle offerNotice driveLines
  rw [harise, hattention, Bool.and_false]
  simp only [Bool.false_eq_true, if_false]
  rw [hlines]
  rfl

end State

/-- Settles O6: every field is the model's reset state, which the end of the step leaves as it is. -/
theorem resetsGiveTheResetState : Obligations.ResetsGiveTheResetState := by
  intro pins s port free fresh
  constructor
  · show Host.Outcome.next (State.settle s (s.resetBy .power pins)) = _
    rw [State.settle_resetBy]
    rfl
  · show Host.Outcome.next (State.settle s (s.resetBy .line pins)) = _
    rw [State.settle_resetBy]
    rfl

/-- Settles O7: the reset state meets the laws as any reset leaves them. -/
theorem resetIsSound : Obligations.ResetIsSound := by
  have htraffic : TrafficLaw State.reset := trafficLaw_resetBy State.reset .power Pins.atReset
  have htables : TableLaws State.reset := tableLaws_resetBy State.reset .power Pins.atReset
  have hcycle : CycleLaw State.reset := cycleLaw_resetBy State.reset .power Pins.atReset
  have hlinks : LinkLaws State.reset := linkLaws_resetBy State.reset .power Pins.atReset
  have hlines : LinesLaw State.reset := (State.evalLines_of_no_flag rfl rfl).symm
  have hcauses : CauseLaw State.reset := fun c hc =>
    absurd ((State.resetBy_causeHolds State.reset .power Pins.atReset c).symm.trans hc) nofun
  obtain ⟨hidle, hqueue, hflow⟩ := (queues_iff _).mpr ⟨htraffic, ⟨Nat.zero_le _, Nat.zero_le _, Nat.zero_le _⟩⟩
  obtain ⟨⟨hchannels, hcopies, hload⟩, hmoulds, hsuspects⟩ := (tableLaws_iff _).mp htables
  obtain ⟨hrecords, hmonitor, hcarried⟩ := (cycleLaw_iff _).mp hcycle
  exact ⟨hidle, hlines, hcauses, hqueue, hflow, hrecords, hchannels, hcopies, hload, hmoulds, hmonitor, hcarried, hsuspects,
    hlinks.pods, hlinks.ports⟩

/-! ### The end of a step -/

theorem placed_setCond (s : State) (x : Conditions) (f : OwnFrame) : (s.setCond x).placed f = (s.placed f).setCond x := by
  simp only [State.placed, apply_ite (State.setCond · x)]
  rfl

theorem lines_driveLines (s : State) : s.driveLines.lines = s.driveLines.evalLines :=
  (State.evalLines_congr rfl rfl rfl rfl).symm

/-- Settles O3: by whether a Notice is called for, and whether there is room for it (`State.settle_eq`). -/
theorem stepEndDoesThisMuch : Obligations.StepEndDoesThisMuch := by
  intro s u hidle t arose setNow called room
  have ht : t = State.settle s u := rfl
  have hset (c : Condition) : c.isIn (State.causesArise s u).cond.flags = true ↔ setNow c := State.isIn_causesArise s u c
  have hcalled : called ↔ s.attention = false ∧ (State.causesArise s u).attention = true := by
    rw [State.attention_iff, Bool.eq_false_iff, ne_eq, State.attention_iff]
    simp only [hset, not_exists]
    rfl
  have hv : State.causesArise s u = u.setCond ⟨(State.causesArise s u).cond.flags, u.cond.enables⟩ := rfl
  generalize (State.causesArise s u).cond.flags = flags at hv hset
  rw [State.settle_eq hidle.1, hv] at ht
  rw [hv] at hcalled
  by_cases hc : called
  · rw [if_pos (hcalled.mp hc)] at ht
    by_cases hr : room
    · rw [if_pos hr, placed_setCond] at ht
      have hnotice : (u.setCond ⟨flags, u.cond.enables⟩).noticeNow =
          ⟨⟨flags, u.cond.enables⟩, u.engine.operating, u.mouldReport⟩ := rfl
      rw [hnotice] at ht
      obtain ⟨own, count, tx, hplaced⟩ := u.placed_frame
        (.notice ⟨⟨flags, u.cond.enables⟩, u.engine.operating, u.mouldReport⟩)
      refine ⟨?_, ?_, fun c => ?_, ?_, fun _ _ => ⟨flags, hset, ?_⟩, fun hn => absurd ⟨hc, hr⟩ hn⟩
      · rw [ht, hplaced]; rfl
      · rw [ht]; rfl
      · rw [ht]
        exact (hset c).trans (or_iff_left (fun ⟨_, _, hfull⟩ => hfull hr)).symm
      · rw [ht]; exact lines_driveLines _
      · rw [ht]; exact ⟨rfl, rfl⟩
    · rw [if_neg hr] at ht
      refine ⟨by rw [ht]; rfl, by rw [ht]; rfl, fun c => ?_, ?_, fun _ hroom => absurd hroom hr, fun _ => ?_⟩
      · rw [ht]
        refine (State.isIn_raise _ _ c).trans (or_congr (hset c) ?_)
        exact (and_iff_left ⟨hc, hr⟩).symm
      · rw [ht]; exact lines_driveLines _
      · rw [ht]; exact ⟨rfl, rfl⟩
  · rw [if_neg (mt hcalled.mpr hc)] at ht
    refine ⟨by rw [ht]; rfl, by rw [ht]; rfl, fun c => ?_, ?_, fun hcall => absurd hcall hc, fun _ => ?_⟩
    · rw [ht]
      exact (hset c).trans (or_iff_left (fun ⟨_, hcall, _⟩ => hc hcall)).symm
    · rw [ht]; exact lines_driveLines _
    · rw [ht]; exact ⟨rfl, rfl⟩

/-! ### Standing causes and the lines in split mode -/

theorem State.splitSignals_getLsbD (s : State) :
    s.splitSignals.getLsbD 0 = (s.anyOfClass .warn || s.anyOfClass .stop) ∧
      s.splitSignals.getLsbD 1 = s.anyOfClass .advise ∧ s.splitSignals.getLsbD 2 = Condition.crack.isIn s.cond.flags ∧
      s.splitSignals.getLsbD 3 = s.mouldConfirmed :=
  ⟨BitVec.getLsbD_ofBoolListLE, BitVec.getLsbD_ofBoolListLE, BitVec.getLsbD_ofBoolListLE, BitVec.getLsbD_ofBoolListLE⟩

theorem State.mouldConfirmed_iff (s : State) : s.mouldConfirmed = true ↔ ∃ snap, s.monitor.state = .confirmed snap := by
  unfold mouldConfirmed
  cases s.monitor.state <;> simp

theorem State.crackCause_iff (s : State) :
    s.crackCause = true ↔
      ∃ snap, s.monitor.state = .confirmed snap ∧ ∃ e ∈ s.suspects, e.state = .confirmed ∧ e.slot = snap.code := by
  unfold crackCause
  cases s.monitor.state <;> simp

theorem State.podSilentCause_iff (s : State) :
    s.podSilentCause = true ↔ ∃ p : PodId, s.podPresent p = true ∧ s.pods[p].state = .silent := by
  simp [podSilentCause]

theorem State.mouldUnknownCause_iff (s : State) :
    s.mouldUnknownCause = true ↔
      s.monitor.clamp.debounced = some true ∧ ∃ code, s.monitor.code.debounced = some code ∧ s.moulds[code] = none := by
  unfold mouldUnknownCause
  split
  case h_1 code hclamp hcode =>
    rw [Option.isNone_iff_eq_none, hclamp, hcode]
    exact ⟨fun h => ⟨rfl, code, rfl, h⟩, fun ⟨_, _, hc, h⟩ => by obtain rfl := Option.some.inj hc; exact h⟩
  case h_2 hnot =>
    constructor
    · exact nofun
    · rintro ⟨hclamp, code, hcode, -⟩
      exact absurd hcode (hnot code hclamp)

/-- Settles O4: each cause by its definition, each line by the class of the flags it shows. -/
theorem standingCausesAndSplitLines : Obligations.StandingCausesAndSplitLines := by
  refine ⟨fun s c => ⟨by rw [State.isIn_standing], ?_⟩, ?_⟩
  · cases c with
    | crack => exact s.crackCause_iff
    | podSilent => exact s.podSilentCause_iff
    | mouldChanged => simp [State.causeHolds, State.mouldChangedCause]
    | mouldUnknown => exact s.mouldUnknownCause_iff
    | downstreamStall => exact Iff.rfl
    | linkFault => simp [State.causeHolds, State.linkFaultCause]
    | suspect | watchLost | markOrder | cycleTimeout | driftLimit | listFull | forwardLoss | queueOverrun | loadTimeout =>
      exact ⟨nofun, False.elim⟩
  · intro s hl class' shows
    have hshows (x : CondClass) : s.anyOfClass x = true ↔ shows x := State.anyOfClass_iff
    refine ⟨hl.stop_iff, fun hsplit => ?_⟩
    have hsignals : s.lines.signals = s.splitSignals := by
      rw [hl]
      simp [State.evalLines, hsplit]
    obtain ⟨h0, h1, h2, h3⟩ := s.splitSignals_getLsbD
    rw [hsignals, h0, h1, h2, h3, Bool.or_eq_true, hshows, hshows, hshows, s.mouldConfirmed_iff]
    exact ⟨Iff.rfl, Iff.rfl, Iff.rfl, Iff.rfl⟩

end Sys2Proof.Machine
end

section
/-! Symbols, flow control, transmitters and queues: what each event of a link leaves (R132 to R137, R141 to R143, R154 to
R159). -/

namespace Sys2Proof.Machine

namespace State

variable {s : State} {p : Port}

/-! ### A valid symbol -/

theorem rxFlow_symbolArrives (s : State) (p : Port) : ((s.symbolArrives p).port p).rxFlow = (s.port p).rxFlow := by
  cases p <;> rfl

/-- A symbol that leaves the framing as it is (R137). -/
theorem symbolArrives_eq_heard {x : Framing} (h : (s.port p).framing = x) : s.symbolArrives p = s.heard p x := by
  subst h
  cases p <;> rfl

/-- A step whose effect is none, where the lines show the flags. -/
theorem settle_self (hl : LinesLaw s) : settle s s = s := settle_quiet rfl rfl hl

/-! ### Framing -/

theorem receiveStart_of_inFrame {bytes : List Byte} (h : (s.port p).framing = .inFrame bytes) :
    s.receiveStart p = (s.setFraming p (.inFrame [])).raise .linkFault := by
  unfold receiveStart
  rw [h, setFraming_raise]

theorem receiveStart_of_not_inFrame (h : ∀ bytes, (s.port p).framing ≠ .inFrame bytes) :
    s.receiveStart p = s.setFraming p (.inFrame []) := by
  unfold receiveStart
  cases hf : (s.port p).framing with
  | between => rfl
  | inFrame bytes => exact absurd hf (h bytes)
  | discarding => rfl

theorem receiveEnd_of_between (h : (s.port p).framing = .between) : s.receiveEnd p = s.raise .linkFault := by
  unfold receiveEnd
  rw [h]

theorem receiveEnd_of_discarding (h : (s.port p).framing = .discarding) : s.receiveEnd p = s.setFraming p .between := by
  unfold receiveEnd
  rw [h]

theorem receiveEnd_of_inFrame {bytes : List Byte} (h : (s.port p).framing = .inFrame bytes) :
    s.receiveEnd p =
      if goodFrame bytes = true then (s.setFraming p .between).handOn p (frameOf bytes)
      else (s.setFraming p .between).raise .linkFault := by
  unfold receiveEnd
  rw [h]

theorem breakFrame_of_inFrame {bytes : List Byte} (h : (s.port p).framing = .inFrame bytes) :
    s.breakFrame p = (s.setFraming p .between).raise .linkFault := by
  unfold breakFrame
  rw [h, setFraming_raise]

theorem breakFrame_of_not_inFrame (h : ∀ bytes, (s.port p).framing ≠ .inFrame bytes) :
    s.breakFrame p = s.setFraming p .between := by
  unfold breakFrame
  cases hf : (s.port p).framing with
  | between => rfl
  | inFrame bytes => exact absurd hf (h bytes)
  | discarding => rfl

end State

open State in
/-- Settles O8: each symbol by the framing state it finds. -/
theorem symbolsMoveTheFraming : Obligations.SymbolsMoveTheFraming := by
  have arrived {s : State} {p : Port} {x : Framing} (h : (s.port p).framing = x) :
      ((s.symbolArrives p).port p).framing = x := (framing_symbolArrives s p).trans h
  refine ⟨fun p s c hc => ?_, fun p s b => ⟨fun h => ⟨?_, ?_⟩, fun h => ⟨?_, ?_⟩,
    fun bytes h => ⟨?_, fun hlen => ?_, fun hlen => ?_⟩⟩,
    fun p s => ⟨fun h => ⟨fun hl => ?_, ?_⟩, fun h => ⟨?_, ?_⟩, fun bytes h => ⟨?_, ?_⟩⟩⟩
  · have hexec : exec c s = .next (settle s ((s.symbolArrives p).receiveStart p)) := by
      rcases hc with rfl | rfl <;> rfl
    rw [hexec]
    refine ⟨fun ⟨bytes, h⟩ => ?_, fun h => ?_⟩
    · rw [receiveStart_of_inFrame (arrived h), ← heard_eq]
    · rw [receiveStart_of_not_inFrame (by rw [framing_symbolArrives]; exact h), ← heard_eq]
  · show Host.Outcome.next (settle s ((s.symbolArrives p).receiveData p b)) = _
    rw [receiveData_between (arrived h), symbolArrives_eq_heard h]
  · show Host.Outcome.next (settle s ((s.symbolArrives p).receiveEnd p)) = _
    rw [receiveEnd_of_between (arrived h), symbolArrives_eq_heard h]
  · show Host.Outcome.next (settle s ((s.symbolArrives p).receiveData p b)) = _
    rw [receiveData_discarding (arrived h), symbolArrives_eq_heard h]
  · show Host.Outcome.next (settle s ((s.symbolArrives p).receiveEnd p)) = _
    rw [receiveEnd_of_discarding (arrived h), ← heard_eq]
  · rfl
  · show Host.Outcome.next (settle s ((s.symbolArrives p).receiveData p b)) = _
    rw [receiveData_inFrame (arrived h), if_pos hlen, ← heard_eq]
  · show Host.Outcome.next (settle s ((s.symbolArrives p).receiveData p b)) = _
    rw [receiveData_inFrame (arrived h), if_neg (Nat.not_lt.mpr hlen), ← heard_eq]
  · show Host.Outcome.next (settle s (s.breakFrame p)) = _
    rw [breakFrame_of_not_inFrame (by rw [h]; exact nofun), ← h, setFraming_framing, settle_self hl]
  · show execFrameOverlength p s = _
    simp only [execFrameOverlength, stepped, arrived h]
    rw [symbolArrives_eq_heard h]
  · show Host.Outcome.next (settle s (s.breakFrame p)) = _
    rw [breakFrame_of_not_inFrame (by rw [h]; exact nofun)]
    rfl
  · show execFrameOverlength p s = _
    simp only [execFrameOverlength, stepped, arrived h]
    rw [symbolArrives_eq_heard h]
  · show Host.Outcome.next (settle s (s.breakFrame p)) = _
    rw [breakFrame_of_inFrame h]
    rfl
  · show execFrameOverlength p s = _
    simp only [execFrameOverlength, stepped, arrived h]
    rw [setFraming_raise, ← heard_eq]

/-! ### Flow control -/

namespace State

variable {s : State} {p : Port}

theorem hold_of_held (h : (s.port p).rxFlow = .held) : s.hold p = s := by
  unfold hold
  rw [if_pos h]

theorem holdU_eq (s : State) : s.hold .u = s.setPortU { s.portU with rxFlow := .held } := by
  unfold hold
  split
  case isTrue h =>
    have hsame : { s.portU with rxFlow := .held } = s.portU := by
      rw [← show s.portU.rxFlow = .held from h]
    rw [hsame]
    rfl
  · rfl

theorem holdD_of_released (h : s.portD.rxFlow = .released) :
    s.hold .d = (s.setPortD { s.portD with rxFlow := .held }).setStall ⟨s.tables.setup.map Setup.stallLimit, false⟩ := by
  unfold hold
  rw [if_neg (by rw [show (s.port .d).rxFlow = .released from h]; exact nofun)]
  rfl

theorem release_of_released (h : (s.port p).rxFlow = .released) : s.release p = s := by
  unfold release
  rw [if_pos h]

theorem releaseU_of_held (h : s.portU.rxFlow = .held) :
    s.release .u = (s.setPortU { s.portU with rxFlow := .released }).startU := by
  unfold release
  rw [if_neg (by rw [show (s.port .u).rxFlow = .held from h]; exact nofun)]
  rfl

theorem releaseD_of_held (h : s.portD.rxFlow = .held) :
    s.release .d = ((s.setPortD { s.portD with rxFlow := .released }).setStall ⟨none, false⟩).decideD := by
  unfold release
  rw [if_neg (by rw [show (s.port .d).rxFlow = .held from h]; exact nofun)]
  rfl

/-- A port's receiver after an IDLE: its frame, if one was in progress, is discarded (R132). -/
theorem idle_eq (s : State) (p : Port) :
    (s.symbolArrives p).breakFrame p =
      match (s.port p).framing with
      | .inFrame _ => (s.heard p .between).raise .linkFault
      | .between => s.heard p .between
      | .discarding => s.heard p .between := by
  cases hf : (s.port p).framing with
  | between =>
    rw [breakFrame_of_not_inFrame (by rw [framing_symbolArrives, hf]; exact nofun), ← heard_eq]
  | inFrame bytes =>
    rw [breakFrame_of_inFrame ((framing_symbolArrives s p).trans hf), ← heard_eq]
  | discarding =>
    rw [breakFrame_of_not_inFrame (by rw [framing_symbolArrives, hf]; exact nofun), ← heard_eq]

theorem execSignalLost_of_some (h : (s.port p).signalTimer.isSome = true) :
    exec (.signalLost p) s = .next (settle s (s.loseSignal p)) := by
  show execSignalLost p s = _
  unfold execSignalLost
  rw [if_pos h]
  rfl

end State

open State in
/-- Settles O9: each event by the received flow state it finds. -/
theorem holdGoIdleAndLossMoveTheFlow : Obligations.HoldGoIdleAndLossMoveTheFlow := by
  have arrived {s : State} {p : Port} {x : RxFlow} (h : (s.port p).rxFlow = x) :
      ((s.symbolArrives p).port p).rxFlow = x := (rxFlow_symbolArrives s p).trans h
  refine ⟨fun s => ⟨?_, fun h => ?_, fun h => ?_⟩, fun s => ⟨fun h => ?_, fun h => ?_, fun p h => ?_, fun p hf h => ?_,
    fun p hf h => ?_, fun p h => ?_⟩, fun s => ⟨fun p h => ?_, fun p ht h => ?_, fun ht h => ?_, fun ht h => ?_⟩⟩
  · show Host.Outcome.next (settle s ((s.symbolArrives .u).hold .u)) = _
    rw [holdU_eq]
    rfl
  · show Host.Outcome.next (settle s ((s.symbolArrives .d).hold .d)) = _
    rw [hold_of_held (arrived (p := .d) h)]
    rfl
  · show Host.Outcome.next (settle s ((s.symbolArrives .d).hold .d)) = _
    rw [holdD_of_released (arrived (p := .d) h)]
    rfl
  · show Host.Outcome.next (settle s ((s.symbolArrives .u).release .u)) = _
    rw [releaseU_of_held (arrived (p := .u) h)]
    rfl
  · show Host.Outcome.next (settle s ((s.symbolArrives .d).release .d)) = _
    rw [releaseD_of_held (arrived (p := .d) h)]
    rfl
  · show Host.Outcome.next (settle s ((s.symbolArrives p).release p)) = _
    rw [release_of_released (arrived h), symbolArrives_eq_heard rfl]
  · obtain ⟨bytes, hf⟩ := hf
    show Host.Outcome.next (settle s (((s.symbolArrives p).breakFrame p).release p)) = _
    rw [idle_eq, hf, release_of_released]
    cases p <;> exact h
  · show Host.Outcome.next (settle s (((s.symbolArrives p).breakFrame p).release p)) = _
    rw [breakFrame_of_not_inFrame (by rw [framing_symbolArrives]; exact hf), ← heard_eq, release_of_released]
    cases p <;> exact h
  · intro v
    show Host.Outcome.next (settle s (((s.symbolArrives p).breakFrame p).release p)) = _
    rw [idle_eq]
    cases p with
    | u => cases hf : (s.port .u).framing <;> simp only [v, hf] <;> rw [releaseU_of_held (by exact h)] <;> rfl
    | d => cases hf : (s.port .d).framing <;> simp only [v, hf] <;> rw [releaseD_of_held (by exact h)] <;> rfl
  · show execSignalLost p s = _
    simp [execSignalLost, h, noEvent]
  · rw [execSignalLost_of_some ht]
    unfold loseSignal
    simp only
    rw [release_of_released (by cases p <;> exact h)]
  · rw [execSignalLost_of_some (p := .u) ht]
    unfold loseSignal
    simp only
    rw [releaseU_of_held (by exact h)]
    rfl
  · rw [execSignalLost_of_some (p := .d) ht]
    unfold loseSignal
    simp only
    rw [releaseD_of_held (by exact h)]
    rfl

/-! ### Transmitters and the arbiter -/

namespace State

variable {s : State}

theorem mayStart_iff (s : State) (p : Port) : s.mayStart p = true ↔ (s.port p).tx = none ∧ (s.port p).rxFlow = .released := by
  simp [mayStart]

/-- No decision point while port D sends or is held, or both queues are empty (R158). -/
theorem decideD_of_not (h : s.portD.tx.isSome = true ∨ s.portD.rxFlow = .held ∨ (s.paths.forward = [] ∧ s.paths.own = [])) :
    s.decideD = s := by
  unfold decideD
  split
  case isTrue hmay =>
    obtain ⟨htx, hrx⟩ := (s.mayStart_iff .d).mp hmay
    rcases h with h | h | ⟨hf, ho⟩
    · rw [show s.portD.tx = none from htx] at h
      cases h
    · exact absurd (h.symm.trans hrx) nofun
    · rw [hf, ho]
  · rfl

theorem startU_of_not (h : s.portU.tx.isSome = true ∨ s.portU.rxFlow = .held ∨ s.paths.upward = []) : s.startU = s := by
  unfold startU
  split
  case isTrue hmay =>
    obtain ⟨htx, hrx⟩ := (s.mayStart_iff .u).mp hmay
    rcases h with h | h | hu
    · rw [show s.portU.tx = none from htx] at h
      cases h
    · exact absurd (h.symm.trans hrx) nofun
    · rw [hu]
  · rfl

theorem startU_of_upward (htx : s.portU.tx = none) (hrx : s.portU.rxFlow = .released) {f : List Byte} {fs : List (List Byte)}
    (hu : s.paths.upward = f :: fs) : s.startU = (s.setUpward fs).sendU f := by
  unfold startU
  rw [if_pos ((s.mayStart_iff .u).mpr ⟨htx, hrx⟩), hu]

theorem decideD_of_forward (htx : s.portD.tx = none) (hrx : s.portD.rxFlow = .released) {f : List Byte}
    {fs : List (List Byte)} (hf : s.paths.forward = f :: fs) (h : s.paths.own = [] ∨ s.paths.passOver ≤ 2) :
    s.decideD = s.grantForward f fs (if s.paths.own = [] then 0 else s.paths.passOver + 1) := by
  unfold decideD
  rw [if_pos ((s.mayStart_iff .d).mpr ⟨htx, hrx⟩), hf]
  cases ho : s.paths.own with
  | nil => rw [if_pos rfl]
  | cons o os =>
    have hpass : s.paths.passOver < Config.passOverLimit := Nat.lt_succ_of_le (h.resolve_left (by simp [ho]))
    simp only [if_pos hpass]
    rw [if_neg (List.cons_ne_nil o os)]

theorem decideD_of_own (htx : s.portD.tx = none) (hrx : s.portD.rxFlow = .released) {o : OwnFrame} {os : List OwnFrame}
    (ho : s.paths.own = o :: os) (h : s.paths.forward = [] ∨ 3 ≤ s.paths.passOver) : s.decideD = s.grantOwn o os := by
  unfold decideD
  rw [if_pos ((s.mayStart_iff .d).mpr ⟨htx, hrx⟩), ho]
  cases hf : s.paths.forward with
  | nil => rfl
  | cons f fs =>
    have hpass : ¬s.paths.passOver < Config.passOverLimit := Nat.not_lt.mpr (h.resolve_left (by simp [hf]))
    simp only [if_neg hpass]

theorem grantForward_eq (s : State) (f : List Byte) (fs : List (List Byte)) (n : Nat) :
    s.grantForward f fs n =
      { s.setForward fs with
        portD := { s.portD with tx := some { bytes := f, place := 0 } }
        paths := { s.paths with forward := fs, passOver := n } } := by
  unfold grantForward
  rw [setForward_eq]
  rfl

end State

/-- Settles O10: the end of a frame is a decision point; a decision point grants by the two queues and the pass-over count. -/
theorem frameEndsAndTheArbiter : Obligations.FrameEndsAndTheArbiter := by
  refine ⟨fun s => ?_, fun s => ⟨State.decideD_of_not, State.startU_of_not, fun htx hrx => ⟨fun f fs hf h => ?_,
    fun o os ho h => ?_⟩, fun htx hrx f fs hu => ?_⟩⟩
  · intro finished
    have hfinish {p : LinkPort} {x : Outgoing} (hx : p.tx = some x) : p.finish = finished p x := LinkPort.finish_of_frame hx
    refine ⟨fun x hx => ?_, fun x hx => ?_, fun hx => ?_, fun hx => ?_⟩
    · show execPortDFrameEnd s = _
      rw [execPortDFrameEnd, if_pos (by rw [hx]; rfl), ← hfinish hx]
      rfl
    · show execPortUFrameEnd s = _
      rw [execPortUFrameEnd, if_pos (by rw [hx]; rfl), ← hfinish hx]
      rfl
    · show execPortDFrameEnd s = _
      rw [execPortDFrameEnd, if_neg (by rw [hx]; exact nofun)]
      rfl
    · show execPortUFrameEnd s = _
      rw [execPortUFrameEnd, if_neg (by rw [hx]; exact nofun)]
      rfl
  · rw [State.decideD_of_forward htx hrx hf h, State.grantForward_eq]
  · rw [State.decideD_of_own htx hrx ho h]
    rfl
  · rw [State.startU_of_upward htx hrx hu]
    rfl

/-! ### The queues and the sent flow states -/

namespace State

variable {s : State}

/-- A pod after port U's sent flow state has followed the forward queue (R148). -/
theorem setForward_pod (s : State) (q : List (List Byte)) (p : PodId) :
    (s.setForward q).pods[p] =
      if s.engine.operating = .watching ∧ s.podPresent p = true ∧ s.pods[p].state = .live ∧
          nextTxFlow 6 2 s.portU.txFlow q.length ≠ s.portU.txFlow then
        ⟨.live, if nextTxFlow 6 2 s.portU.txFlow q.length = .hold then .suspended else s.freshTimer p⟩
      else s.pods[p] := by
  have hpods := s.setForward_pods q
  generalize nextTxFlow 6 2 s.portU.txFlow q.length = flow at hpods ⊢
  simp only [watching_eq_true] at hpods
  rw [hpods]
  by_cases hmoves : s.engine.operating = .watching ∧ flow ≠ s.portU.txFlow
  · obtain ⟨hw, hflow⟩ := hmoves
    rw [if_pos ⟨hw, hflow⟩]
    have hpod (z : SilenceTimer) :
        (if s.podPresent p && s.pods[p].state == .live then { s.pods[p] with timer := z } else s.pods[p]) =
          if s.engine.operating = .watching ∧ s.podPresent p = true ∧ s.pods[p].state = .live ∧ flow ≠ s.portU.txFlow then
            ⟨.live, z⟩
          else s.pods[p] := by
      by_cases hp : s.podPresent p = true ∧ s.pods[p].state = .live
      · obtain ⟨hpresent, hlive⟩ := hp
        rw [if_pos (by rw [hpresent, hlive]; rfl), if_pos ⟨hw, hpresent, hlive, hflow⟩]
        show Pod.mk s.pods[p].state z = _
        rw [hlive]
      · rw [if_neg (fun h => hp (by simpa only [Bool.and_eq_true, beq_iff_eq] using h)),
          if_neg (fun h => hp ⟨h.2.1, h.2.2.1⟩)]
    cases flow with
    | hold =>
      show s.suspendPods.pods[p] = _
      rw [suspendPods, mapPods_getElem]
      exact hpod _
    | go =>
      show s.resumePods.pods[p] = _
      rw [resumePods, mapPods_getElem]
      exact hpod _
  · rw [if_neg hmoves, if_neg fun h => hmoves ⟨h.1, h.2.2.2⟩]

/-- A short upward queue under GO changes nothing beside itself. -/
theorem setUpward_of_go (h : s.portD.txFlow = .go) {q : List (List Byte)} (hq : q.length < 3) :
    s.setUpward q = { s with paths := { s.paths with upward := q } } := by
  have hn : nextTxFlow 3 1 s.portD.txFlow q.length = s.portD.txFlow := by
    rw [h]
    unfold nextTxFlow
    rw [if_neg (by omega)]
    split <;> rfl
  rw [setUpward_eq, hn, LinkPort.setFlow_same]

/-- A frame that joins the forward queue of an idle, released port D is sent at once (R159). -/
theorem offerForward_of_idle (hidle : NoIdleWait s) (hflow : FlowLaw s) (htx : s.portD.tx = none)
    (hrx : s.portD.rxFlow = .released) (b : List Byte) :
    s.offerForward b =
      { s with portD := { s.portD with tx := some { bytes := b, place := 0 } }, paths := { s.paths with passOver := 0 } } := by
  obtain ⟨hf, ho⟩ := hidle.1 htx hrx
  have hgo : s.portU.txFlow = .go := hflow.2.1 (by rw [hf]; exact Nat.zero_le 2)
  have hroom : s.paths.forward.length < Config.forwardCapacity := by rw [hf]; decide
  have hjoin : s.setForward (s.paths.forward ++ [b]) = s.setPaths { s.paths with forward := [b] } := by
    rw [hf]
    exact setForward_of_go hgo (show [b].length < 6 by simp)
  have hleave : (s.setPaths { s.paths with forward := [b] }).setForward [] = s := by
    rw [setForward_of_go (s := s.setPaths { s.paths with forward := [b] }) hgo
      (show ([] : List (List Byte)).length < 6 by simp)]
    simp only [setPaths, ← hf]
  unfold offerForward
  rw [if_pos hroom, hjoin, decideD_of_forward (s := s.setPaths { s.paths with forward := [b] }) (f := b) (fs := []) htx hrx
    rfl (.inl ho), if_pos (by exact ho), grantForward_eq, hleave]
  simp only [setPaths, ← hf]

theorem offerUpward_of_idle (hidle : NoIdleWait s) (hflow : FlowLaw s) (htx : s.portU.tx = none)
    (hrx : s.portU.rxFlow = .released) (b : List Byte) :
    s.offerUpward b = { s with portU := { s.portU with tx := some { bytes := b, place := 0 } } } := by
  have hu := hidle.2 htx hrx
  have hgo : s.portD.txFlow = .go := hflow.2.2.2 (by rw [hu]; exact Nat.zero_le 1)
  have hroom : s.paths.upward.length < Config.upwardCapacity := by rw [hu]; decide
  have hjoin : s.setUpward (s.paths.upward ++ [b]) = s.setPaths { s.paths with upward := [b] } := by
    rw [hu]
    exact setUpward_of_go hgo (show [b].length < 3 by simp)
  have hleave : (s.setPaths { s.paths with upward := [b] }).setUpward [] = s := by
    rw [setUpward_of_go (s := s.setPaths { s.paths with upward := [b] }) hgo
      (show ([] : List (List Byte)).length < 3 by simp)]
    simp only [setPaths, ← hu]
  unfold offerUpward
  rw [if_pos hroom, hjoin, startU_of_upward (s := s.setPaths { s.paths with upward := [b] }) (f := b) (fs := []) htx hrx rfl,
    hleave]
  rfl

end State

/-- Settles O11: the flow states by `nextTxFlow`, a frame offered by whether its queue has room and its transmitter is idle. -/
theorem queuesAndSentFlowStates : Obligations.QueuesAndSentFlowStates := by
  refine ⟨fun s q => ?_, fun s b hidle hflow => ⟨fun h => ?_, fun htx hrx => State.offerForward_of_idle hidle hflow htx hrx b,
    fun h hlen => ?_, fun h => ?_, fun htx hrx => State.offerUpward_of_idle hidle hflow htx hrx b, fun h hlen => ?_⟩⟩
  · intro follows u d
    have hfollows (high low : Nat) (p : LinkPort) : p.setFlow (nextTxFlow high low p.txFlow q.length) = follows high low p := by
      have hchange (x y : TxFlow) : (x != y) = decide (x ≠ y) := by rw [Bool.eq_iff_iff, bne_iff_ne, decide_eq_true_iff]
      simp only [follows, LinkPort.setFlow, nextTxFlow, hchange]
    have hu : u = { s with
        paths := { s.paths with forward := q }
        portU := follows 6 2 s.portU
        pods := u.pods } := by rw [← hfollows]; exact s.setForward_eq q
    have hflowU : u.portU.txFlow = nextTxFlow 6 2 s.portU.txFlow q.length := by rw [hu]; rfl
    refine ⟨by rw [hu], by rw [hu], fun p => ?_, by rw [hu], ?_⟩
    · rw [hflowU]
      exact s.setForward_pod q p
    · rw [← hfollows]
      exact s.setUpward_eq q
  · unfold State.offerForward
    rw [if_neg (by rw [h]; decide)]
  · unfold State.offerForward
    rw [if_pos hlen, State.decideD_of_not]
    rw [State.setForward_eq]
    exact h.imp_right .inl
  · unfold State.offerUpward
    rw [if_neg (by rw [h]; decide)]
  · unfold State.offerUpward
    rw [if_pos hlen, State.startU_of_not]
    exact h.imp_right .inl

end Sys2Proof.Machine
end

section
/-! Received frames: what a completed frame does, by its checks, its addresses and its kind (R21 to R25, R132 to R138, R145,
R149 to R153, R163, R165). -/

namespace Sys2Proof.Machine

/-! ### Completed frames -/

namespace State

variable {s : State} {p : Port}

theorem frameReceived_between (h : (s.port p).framing = .between) (data : List Byte) :
    exec (.frameReceived p data) s = .next (settle s ((s.heard p .between).raise .linkFault)) := by
  have hb : ((s.symbolArrives p).port p).framing = .between := (framing_symbolArrives s p).trans h
  show Host.Outcome.next (settle s ((data.foldl (fun u b => u.receiveData p b) (s.symbolArrives p)).receiveEnd p)) = _
  rw [dataRun_between hb, ← symbolArrives_eq_heard h]
  split
  · rw [receiveEnd_of_between hb]
  · rw [receiveEnd_of_between (by rw [port_raise]; exact hb), raise_raise]

theorem frameReceived_discarding (h : (s.port p).framing = .discarding) (data : List Byte) :
    exec (.frameReceived p data) s = .next (settle s (s.heard p .between)) := by
  have hd : ((s.symbolArrives p).port p).framing = .discarding := (framing_symbolArrives s p).trans h
  show Host.Outcome.next (settle s ((data.foldl (fun u b => u.receiveData p b) (s.symbolArrives p)).receiveEnd p)) = _
  rw [dataRun_discarding hd, receiveEnd_of_discarding hd, heard_eq]

theorem frameReceived_overlong {before : List Byte} (h : (s.port p).framing = .inFrame before) (hb : before.length ≤ 246)
    {data : List Byte} (hl : 246 < (before ++ data).length) :
    exec (.frameReceived p data) s = .next (settle s ((s.heard p .between).raise .linkFault)) := by
  have hf : ((s.symbolArrives p).port p).framing = .inFrame before := (framing_symbolArrives s p).trans h
  show Host.Outcome.next (settle s ((data.foldl (fun u b => u.receiveData p b) (s.symbolArrives p)).receiveEnd p)) = _
  rw [dataRun_overlong hf hb data hl, receiveEnd_of_discarding (by rw [port_raise, framing_setFraming]), setFraming_raise,
    setFraming_setFraming, ← heard_eq]

theorem frameReceived_bad {data bytes : List Byte} (hc : Completes s p data bytes) (h : ¬PassesChecks bytes) :
    exec (.frameReceived p data) s = .next (settle s ((s.heard p .between).raise .linkFault)) := by
  show execFrameReceived p data s = _
  rw [frameReceived_completes hc, if_neg (by rwa [goodFrame_iff])]

theorem frameReceived_good {data bytes : List Byte} (hc : Completes s p data bytes) (h : PassesChecks bytes) :
    exec (.frameReceived p data) s = .next (settle s ((s.heard p .between).handOn p (frameOf bytes))) := by
  show execFrameReceived p data s = _
  rw [frameReceived_completes hc, if_pos ((goodFrame_iff bytes).mpr h)]

/-! ### Addresses and directions -/

theorem heard_straps (s : State) (p : Port) (x : Framing) : (s.heard p x).straps = s.straps := by
  cases p <;> rfl

theorem addressesStand_congr {t : State} (h : t.straps = s.straps) (f : Frame) : AddressesStand t f ↔ AddressesStand s f := by
  unfold AddressesStand
  rw [h]

theorem legalOnU_congr {t : State} (h : t.straps = s.straps) (f : Frame) : LegalOnU t f ↔ LegalOnU s f := by
  unfold LegalOnU
  rw [h]

theorem podHears_heard_straps (s : State) (f : Frame) : ((s.heard .u .between).podHears f).straps = s.straps :=
  (podHears_straps _ f).trans (heard_straps s .u .between)

theorem routeU_of_legal {f : Frame} (ha : AddressesStand s f) (hu : LegalOnU s f) : s.routeU f = s.routeDown f := by
  unfold routeU
  rw [if_neg]
  rw [Bool.or_eq_true, misaddressed_iff, illegalOnU_iff]
  exact not_or.mpr ⟨not_not_intro ha, not_not_intro hu⟩

theorem routeU_of_not {f : Frame} (h : ¬(AddressesStand s f ∧ LegalOnU s f)) : s.routeU f = s.raise .linkFault := by
  unfold routeU
  rw [if_pos]
  rw [Bool.or_eq_true, misaddressed_iff, illegalOnU_iff]
  exact not_and_or.mp h

theorem routeD_of_legal {f : Frame} (ha : AddressesStand s f) (hd : LegalOnD f) : s.routeD f = s.routeUp f := by
  unfold routeD
  rw [if_neg]
  rw [Bool.or_eq_true, misaddressed_iff, illegalOnD_iff]
  exact not_or.mpr ⟨not_not_intro ha, not_not_intro hd⟩

theorem routeD_of_not {f : Frame} (h : ¬(AddressesStand s f ∧ LegalOnD f)) : s.routeD f = s.raise .linkFault := by
  unfold routeD
  rw [if_pos]
  rw [Bool.or_eq_true, misaddressed_iff, illegalOnD_iff]
  exact not_and_or.mp h

end State

/-- Settles O12: a frame by what its receiver finds it to be; a good frame by its addresses and its direction. -/
theorem faultyFramesAreDiscarded : Obligations.FaultyFramesAreDiscarded := by
  refine ⟨fun p data s => ⟨fun h => State.frameReceived_between h data, fun h => State.frameReceived_discarding h data,
    fun bytes hc h => State.frameReceived_bad hc h, fun before h hb hl => State.frameReceived_overlong h hb hl⟩,
    fun data bytes s hgood => ⟨fun hc h => ?_, fun hc h => ?_⟩⟩
  · rw [State.frameReceived_good hc hgood]
    have hstraps := State.podHears_heard_straps s (frameOf bytes)
    show Host.Outcome.next (State.settle s (((s.heard .u .between).podHears (frameOf bytes)).routeU (frameOf bytes))) = _
    rw [State.routeU_of_not]
    rwa [State.addressesStand_congr hstraps, State.legalOnU_congr hstraps]
  · rw [State.frameReceived_good hc hgood]
    show Host.Outcome.next (State.settle s ((s.heard .d .between).routeD (frameOf bytes))) = _
    rw [State.routeD_of_not]
    rwa [State.addressesStand_congr (s.heard_straps .d .between)]

/-! ### The pod of a frame, its copy and the forward policy -/

theorem podOf_of_toNat {a : Byte} {p : PodId} (h : a.toNat = p.val + 1) : podOf a = some p := by
  have hp := p.isLt
  unfold podOf
  rw [dif_pos (by omega)]
  exact congrArg some (Fin.ext (by simp [h]))

theorem podOf_of_none {a : Byte} (h : ¬(1 ≤ a.toNat ∧ a.toNat ≤ 8)) : podOf a = none := dif_neg h

/-- A Sample frame's source and channel are an entry's pod and channel (R21). -/
def ChannelEntry.Fits (e : ChannelEntry) (f : Frame) : Prop :=
  f.source.toNat = e.pod.val + 1 ∧ (f.payload.getD 0 0).toNat = e.channel.val

theorem ChannelEntry.matchesFrame_iff (e : ChannelEntry) (f : Frame) : e.matchesFrame f = true ↔ e.Fits f := by
  simp [matchesFrame, Fits, byteAt]

theorem matchEntry_none {channels : List ChannelEntry} {f : Frame} :
    matchEntry channels f = none ↔ ∀ e ∈ channels, ¬e.Fits f := by
  unfold matchEntry
  simp only [List.findIdx?_eq_none_iff, ← ChannelEntry.matchesFrame_iff, Bool.not_eq_true]

/-- Two entries that fit one frame have the same pod and channel (R21). -/
theorem ChannelEntry.Fits.unique {d e : ChannelEntry} {f : Frame} (hd : d.Fits f) (he : e.Fits f) :
    d.pod = e.pod ∧ d.channel = e.channel :=
  ⟨Fin.ext (Nat.succ.inj (hd.1.symm.trans he.1)), Fin.ext (hd.2.symm.trans he.2)⟩

/-- In a lawful table no two entries match one frame (R20, R21). -/
theorem matchEntry_of_fits {channels : List ChannelEntry} {f : Frame} {i : Nat} {e : ChannelEntry}
    (hapart : channels.Pairwise ChannelEntry.Apart) (hi : channels[i]? = some e) (hfits : e.Fits f) :
    matchEntry channels f = some i := by
  obtain ⟨hlt, rfl⟩ := List.getElem?_eq_some_iff.mp hi
  unfold matchEntry
  rw [List.findIdx?_eq_some_iff_getElem]
  refine ⟨hlt, (ChannelEntry.matchesFrame_iff _ _).mpr hfits, fun j hj hmatch => ?_⟩
  exact (List.pairwise_iff_getElem.mp hapart j i _ hlt hj).1 (((ChannelEntry.matchesFrame_iff _ _).mp hmatch).unique hfits)

/-- The three phase tags that are examined (R24, R193). -/
theorem examPhaseOf_of_mem {payload : List Byte} {ph : ExamPhase}
    (h : ((payload.getD 2 0).toNat, ph) ∈ [(2, ExamPhase.vibe), (3, .ring), (4, .strip)]) :
    examPhaseOf payload = some ph := by
  unfold examPhaseOf byteAt
  simp only [List.mem_cons, Prod.mk.injEq, List.not_mem_nil, or_false] at h
  rcases h with ⟨h, rfl⟩ | ⟨h, rfl⟩ | ⟨h, rfl⟩ <;> simp only [h]

theorem examPhaseOf_of_not_mem {payload : List Byte} (h : (payload.getD 2 0).toNat ∉ [2, 3, 4]) :
    examPhaseOf payload = none := by
  unfold examPhaseOf byteAt
  simp only [List.mem_cons, List.not_mem_nil, or_false, not_or] at h
  obtain ⟨h2, h3, h4⟩ := h
  split
  case h_4 => rfl
  all_goals contradiction

theorem copyOf_of_no_match {channels : List ChannelEntry} {f : Frame} (h : ∀ e ∈ channels, ¬e.Fits f) :
    copyOf channels f = none := by
  unfold copyOf
  rw [matchEntry_none.mpr h]

theorem copyOf_of_no_phase {channels : List ChannelEntry} {f : Frame} (h : (f.payload.getD 2 0).toNat ∉ [2, 3, 4]) :
    copyOf channels f = none := by
  unfold copyOf
  rw [examPhaseOf_of_not_mem h]
  cases matchEntry channels f <;> rfl

theorem copyOf_of_match {channels : List ChannelEntry} {f : Frame} {i : Nat} {e : ChannelEntry} {ph : ExamPhase}
    (hm : matchEntry channels f = some i) (hi : channels[i]? = some e) (hp : examPhaseOf f.payload = some ph) :
    copyOf channels f =
      some
        { pod := e.pod, channel := e.channel, cycleTag := f.payload.getD 1 0, phase := ph, sequence := f.payload.getD 3 0,
          samples := samplesOf f.payload, entry := i } := by
  unfold copyOf
  rw [hm, hp]
  simp only [hi]

namespace State

variable {s : State}

theorem offerCopy_of_none {f : Frame} (h : s.watching = false ∨ copyOf s.tables.channels f = none) : s.offerCopy f = s := by
  unfold offerCopy
  rcases h with h | h
  · rw [h]
  · rw [h]
    cases s.watching <;> rfl

theorem offerCopy_of_some {f : Frame} {c : Copy} (hw : s.watching = true) (h : copyOf s.tables.channels f = some c) :
    s.offerCopy f = if s.exam.length < 16 then { s with exam := s.exam ++ [c] } else s.raise .queueOverrun := by
  unfold offerCopy
  rw [hw, h]
  rfl

theorem policyOffers_of_halted {f : Frame} (h : s.watching = false) : s.policyOffers f = true := by
  unfold policyOffers
  rw [h]

theorem policyOffers_of_all {f : Frame} {su : Setup} (hs : s.tables.setup = some su) (hp : su.policy = .all) :
    s.policyOffers f = true := by
  unfold policyOffers
  rw [hs]
  cases s.watching <;> simp only [hp]

theorem policyOffers_of_policy_none {f : Frame} {su : Setup} (hw : s.watching = true) (hs : s.tables.setup = some su)
    (hp : su.policy = .none) : s.policyOffers f = false := by
  unfold policyOffers
  rw [hw, hs]
  simp only [hp]

theorem policyOffers_of_tagged {f : Frame} {su : Setup} (hw : s.watching = true) (hs : s.tables.setup = some su)
    (hp : su.policy = .tagged) (hapart : s.tables.channels.Pairwise ChannelEntry.Apart) :
    s.policyOffers f = true ↔
      (∃ e ∈ s.tables.channels, e.Fits f ∧ e.forward = true) ∨ ∀ e ∈ s.tables.channels, ¬e.Fits f := by
  unfold policyOffers
  rw [hw, hs]
  simp only [hp]
  cases hm : matchEntry s.tables.channels f with
  | none => exact iff_of_true rfl (.inr (matchEntry_none.mp hm))
  | some i =>
    obtain ⟨hlt, hfits, -⟩ := List.findIdx?_eq_some_iff_getElem.mp hm
    rw [ChannelEntry.matchesFrame_iff] at hfits
    simp only [List.getElem?_eq_getElem hlt]
    refine ⟨fun h => .inl ⟨_, List.getElem_mem hlt, hfits, h⟩, ?_⟩
    rintro (⟨e, he, hfit, hforward⟩ | h)
    · obtain ⟨j, hj⟩ := List.getElem?_of_mem he
      obtain rfl := Option.some.inj ((matchEntry_of_fits hapart hj hfit).symm.trans hm)
      obtain rfl := Option.some.inj ((List.getElem?_eq_getElem hlt).symm.trans hj)
      exact hforward
    · exact absurd hfits (h _ (List.getElem_mem hlt))

theorem podHears_of_silent {f : Frame} {p : PodId} (hp : f.source.toNat = p.val + 1)
    (h : s.watching = false ∨ s.podPresent p = false) : s.podHears f = s := by
  unfold podHears speaksFor
  rw [podOf_of_toNat hp]
  rcases h with h | h <;> simp [h]

end State

/-- Settles O13: the pod of a source, the copy of a Sample frame, and the forward policy. -/
theorem podCopyAndPolicyOfAFrame : Obligations.PodCopyAndPolicyOfAFrame := by
  have watching {s : State} (h : s.engine.operating = .watching) : s.watching = true := State.watching_eq_true.mpr h
  refine ⟨fun s f => ⟨fun p hp hw hpresent => ?_, fun p hp h => ?_, fun h => ?_⟩, fun s f => ⟨fun h => ?_, fun h => ?_,
    fun h => ?_, fun hw hlaw i e ph hi hfits hph => ?_, fun hw hlaw su hsu => ⟨?_, ?_, fun hp => ?_⟩⟩⟩
  · unfold State.podHears State.speaksFor
    rw [podOf_of_toNat hp]
    simp only [watching hw, hpresent, Bool.and_self, if_true]
    unfold State.mapPods
    rw [ofFn_update]
    rfl
  · exact State.podHears_of_silent hp (h.imp_left State.watching_eq_false.mpr)
  · unfold State.podHears
    rw [podOf_of_none h]
  · have hh := State.watching_eq_false.mpr h
    exact ⟨State.offerCopy_of_none (.inl hh), State.policyOffers_of_halted hh⟩
  · exact State.offerCopy_of_none (.inr (copyOf_of_no_match h))
  · exact State.offerCopy_of_none (.inr (copyOf_of_no_phase h))
  · rw [State.offerCopy_of_some (watching hw)
      (copyOf_of_match (matchEntry_of_fits hlaw.2.2 hi hfits) hi (examPhaseOf_of_mem hph)), samplesOf_eq]
  · exact State.policyOffers_of_all hsu
  · exact State.policyOffers_of_policy_none (watching hw) hsu
  · exact State.policyOffers_of_tagged (watching hw) hsu hp hlaw.2.2

/-! ### Frames carried downstream -/

namespace State

variable {s : State}

/-- The forward policy does not look at what an examination copy changes. -/
theorem policyOffers_offerCopy (s : State) (f g : Frame) : (s.offerCopy f).policyOffers g = s.policyOffers g := by
  obtain ⟨exam, cond, h⟩ := s.offerCopy_frame f
  rw [h]
  rfl

theorem routeDown_of_other {f : Frame} (h : f.kind ≠ 1) : s.routeDown f = s.offerForward f.bytes := if_neg h

theorem routeDown_of_odd_length {f : Frame} (h : f.kind = 1) (hl : f.payload.length ≠ 68) :
    s.routeDown f = (s.raise .linkFault).offerForward f.bytes := by
  exact (if_pos h).trans (if_neg hl)

theorem routeDown_of_sample {f : Frame} (h : f.kind = 1) (hl : f.payload.length = 68) :
    s.routeDown f = if s.policyOffers f then (s.offerCopy f).offerForward f.bytes else s.offerCopy f := by
  refine (if_pos h).trans ((if_pos hl).trans ?_)
  unfold routeSample
  simp only [policyOffers_offerCopy]

end State

/-- Settles O14: a good frame of port U by its kind and its length. -/
theorem framesFromPodsAreCarried : Obligations.FramesFromPodsAreCarried := by
  intro data bytes s hc hgood f v haddr hlegal
  have hstraps : v.straps = s.straps := State.podHears_heard_straps s f
  have hroute : exec (.frameReceived .u data) s = .next (State.settle s (v.routeDown f)) := by
    rw [State.frameReceived_good hc hgood, ← State.routeU_of_legal ((State.addressesStand_congr hstraps f).mpr haddr)
      ((State.legalOnU_congr hstraps f).mpr hlegal)]
    rfl
  rw [hroute]
  refine ⟨fun h => ?_, fun h hl => ?_, fun h hl => ?_⟩
  · rw [State.routeDown_of_other h]
    rfl
  · rw [State.routeDown_of_odd_length h hl]
    rfl
  · rw [State.routeDown_of_sample h hl]
    rfl

/-! ### Frames from the controller's side -/

/-- A two-byte number read from two bytes is their concatenation (R192). -/
theorem ofNat_halfAt (b : List Byte) (i : Nat) : BitVec.ofNat 16 (halfAt b i) = b.getD i 0 ++ b.getD (i + 1) 0 := by
  have hlt : halfAt b i < 2 ^ 16 := by
    have h1 := (b.getD i 0).isLt
    have h2 := (b.getD (i + 1) 0).isLt
    unfold halfAt byteAt
    omega
  refine BitVec.eq_of_toNat_eq ?_
  rw [toNat_append_byte, BitVec.toNat_ofNat, Nat.mod_eq_of_lt hlt]
  rfl

theorem markKindOf_of_mem {payload : List Byte} {k : MarkKind}
    (h : ((payload.getD 0 0).toNat, k) ∈
      [(1, MarkKind.opening), (2, .vibeOn), (3, .vibeOff), (4, .stripStart), (5, .stripEnd), (6, .close), (7, .abort)]) :
    markKindOf payload = some k := by
  unfold markKindOf byteAt
  simp only [List.mem_cons, Prod.mk.injEq, List.not_mem_nil, or_false] at h
  rcases h with ⟨h, rfl⟩ | ⟨h, rfl⟩ | ⟨h, rfl⟩ | ⟨h, rfl⟩ | ⟨h, rfl⟩ | ⟨h, rfl⟩ | ⟨h, rfl⟩ <;> simp only [h]

theorem markKindOf_of_out {payload : List Byte} (h : (payload.getD 0 0).toNat = 0 ∨ 7 < (payload.getD 0 0).toNat) :
    markKindOf payload = none := by
  unfold markKindOf byteAt
  split
  case h_8 => rfl
  all_goals omega

namespace State

variable {s : State}

theorem routeUp_of_own {f : Frame} (h : f.dest.toNat = 16 + s.straps.sta.toNat) : s.routeUp f = s.routeOwn f :=
  if_pos (BitVec.eq_of_toNat_eq (h.trans s.station_toNat.symm))

theorem routeUp_of_mark {f : Frame} (hd : f.dest = 31) (hk : f.kind = 3) : s.routeUp f = s.routeMark f := by
  have hown : f.dest ≠ s.station := fun h => by
    have hn := congrArg BitVec.toNat h
    have hs := s.straps.sta.isLt
    rw [hd, station_toNat] at hn
    simp at hn
    omega
  unfold routeUp
  rw [if_neg hown]
  exact if_pos ⟨hd, hk⟩

theorem routeUp_of_other {f : Frame} (h : ¬f.dest.toNat = 16 + s.straps.sta.toNat) (hm : ¬(f.dest = 31 ∧ f.kind = 3)) :
    s.routeUp f = s.offerUpward f.bytes := by
  unfold routeUp
  rw [if_neg fun he => h ((congrArg BitVec.toNat he).trans s.station_toNat)]
  exact if_neg hm

theorem routeOwn_of_request {f : Frame} (hk : f.kind = 5) (hl : 2 ≤ f.payload.length) :
    s.routeOwn f = s.offerInbox (requestOf f) := if_pos ⟨hk, hl⟩

theorem routeOwn_of_not {f : Frame} (h : f.kind ≠ 5 ∨ f.payload.length < 2) : s.routeOwn f = s.raise .linkFault :=
  if_neg fun hk => h.elim (fun h => h hk.1) (Nat.not_lt.mpr hk.2)

theorem routeMark_of_length {f : Frame} (h : f.payload.length = 3) : s.routeMark f = (s.showMark f).offerUpward f.bytes :=
  if_pos h

theorem routeMark_of_odd_length {f : Frame} (h : f.payload.length ≠ 3) :
    s.routeMark f = (s.raise .linkFault).offerUpward f.bytes := if_neg h

theorem showMark_of_kind {f : Frame} {k : MarkKind} (hw : s.watching = true) (hk : markKindOf f.payload = some k) :
    s.showMark f = s.takeMark k (f.payload.getD 1 0 ++ f.payload.getD 2 0) := by
  unfold showMark markCycleOf
  rw [hw, hk, ofNat_halfAt]

theorem showMark_of_not {f : Frame} (h : s.watching = false ∨ markKindOf f.payload = none) : s.showMark f = s := by
  unfold showMark
  rcases h with h | h
  · rw [h]
  · rw [h]
    cases s.watching <;> rfl

end State

/-! ### The rows of requests -/

theorem rowIf_eq {b : Bool} {p : Prop} [Decidable p] (h : b = true ↔ p) (x : Instr) :
    rowIf b x = if p then x else .unknownRequest := by
  unfold rowIf
  simp only [h]

/-- The counts a body declares stand within its shortest length, so the length alone decides (R194). -/
theorem rowIf_counted (low n size count : Nat) (x : Instr) :
    rowIf (decide (low ≤ n) && n == low + size * count) x = if n = low + size * count then x else .unknownRequest :=
  rowIf_eq (by rw [Bool.and_eq_true, decide_eq_true_iff, beq_iff_eq]; omega) x

theorem rowIf_fixed (n k : Nat) (x : Instr) : rowIf (n == k) x = if n = k then x else .unknownRequest :=
  rowIf_eq beq_iff_eq x

/-- A request with a name of its own row: the row stands for one length of its body (R194). -/
theorem requestRow_of_length {load : Option OpenLoad} {r : Request} {name length : Nat} {x : Instr}
    (hname : r.name.toNat = name)
    (h : (name, length, x) ∈
      [(1, 0, Instr.identify), (2, 0, .readStatus), (4, 52, .loadSetup), (5, 1 + 17 * byteAt r.body 0, .loadBandSets),
       (6, 2 + 10 * byteAt r.body 1, .loadChannels), (7, 15 + 23 * byteAt r.body 14, .loadMould), (9, 0, .loadAbort),
       (10, 2, .readMould), (11, 5, .confirmMould), (12, 1, .readSuspects), (13, 3, .releaseSuspect), (14, 1, .readCycle),
       (15, 2, .clearConditions), (16, 2, .setEnables), (17, 1, .traceSelect), (18, 0, .traceFreeze),
       (19, 0, .traceUnfreeze), (20, 1, .traceRead), (21, 0, .traceOff)]) :
    requestRow load r = if r.body.length = length then x else .unknownRequest := by
  simp only [List.mem_cons, Prod.mk.injEq, List.not_mem_nil, or_false] at h
  unfold requestRow
  rw [hname]
  rcases h with ⟨rfl, rfl, rfl⟩ | ⟨rfl, rfl, rfl⟩ | ⟨rfl, rfl, rfl⟩ | ⟨rfl, rfl, rfl⟩ | ⟨rfl, rfl, rfl⟩ | ⟨rfl, rfl, rfl⟩ |
    ⟨rfl, rfl, rfl⟩ | ⟨rfl, rfl, rfl⟩ | ⟨rfl, rfl, rfl⟩ | ⟨rfl, rfl, rfl⟩ | ⟨rfl, rfl, rfl⟩ | ⟨rfl, rfl, rfl⟩ |
    ⟨rfl, rfl, rfl⟩ | ⟨rfl, rfl, rfl⟩ | ⟨rfl, rfl, rfl⟩ | ⟨rfl, rfl, rfl⟩ | ⟨rfl, rfl, rfl⟩ | ⟨rfl, rfl, rfl⟩ |
    ⟨rfl, rfl, rfl⟩
  case inr.inr.inr.inl => exact rowIf_counted _ _ _ _ _
  case inr.inr.inr.inr.inl => exact rowIf_counted _ _ _ _ _
  case inr.inr.inr.inr.inr.inl => exact rowIf_counted _ _ _ _ _
  all_goals exact rowIf_fixed _ _ _

theorem requestRow_control {load : Option OpenLoad} {r : Request} (h : r.name = 3) :
    requestRow load r = if r.body.length = 1 then controlRow (byteAt r.body 0) else .unknownRequest := by
  unfold requestRow
  rw [h]
  rfl

theorem requestRow_loadContinue {load : Option OpenLoad} {r : Request} (h : r.name = 8) :
    requestRow load r = rowIf (continueLength load r.body) .loadContinue := by
  unfold requestRow
  rw [h]
  rfl

theorem requestRow_of_no_name {load : Option OpenLoad} {r : Request} (h : r.name = 0 ∨ 21 < r.name.toNat) :
    requestRow load r = .unknownRequest := by
  have hname : r.name.toNat = 0 ∨ 21 < r.name.toNat := h.imp_left (congrArg BitVec.toNat)
  unfold requestRow
  split
  case h_22 => rfl
  all_goals omega

theorem controlRow_of_out {a : Nat} (h : a = 0 ∨ 7 < a) : controlRow a = .unknownRequest := if_pos h

theorem controlRow_of_odd {a : Nat} (h : a ∈ [1, 3, 5, 7]) : controlRow a = .restart := by
  simp only [List.mem_cons, List.not_mem_nil, or_false] at h
  rcases h with rfl | rfl | rfl | rfl <;> rfl

theorem controlRow_of_halt {a : Nat} (h : a ∈ [2, 6]) : controlRow a = .halt := by
  simp only [List.mem_cons, List.not_mem_nil, or_false] at h
  rcases h with rfl | rfl <;> rfl

theorem continueLength_iff (load : Option OpenLoad) (body : List Byte) :
    continueLength load body = true ↔
      match load.map OpenLoad.kind with
      | some .channels => body.length = 1 + 10 * byteAt body 0
      | some .mould => body.length = 1 + 23 * byteAt body 0
      | none => body.length = 1 + 10 * byteAt body 0 ∨ body.length = 1 + 23 * byteAt body 0 := by
  unfold continueLength channelSize profileSize
  cases load with
  | none =>
    simp only [Option.map_none, Bool.and_eq_true, Bool.or_eq_true, decide_eq_true_iff, beq_iff_eq]
    omega
  | some l =>
    cases hk : l.kind <;> simp only [Option.map_some, hk, Bool.and_eq_true, decide_eq_true_iff, beq_iff_eq] <;> omega

/-- Settles O15: a good frame of port D by its destination and its kind; a request by its name and its length. -/
theorem framesFromTheControllerAreHandled : Obligations.FramesFromTheControllerAreHandled := by
  refine ⟨fun data bytes s hc hgood => ?_, fun load r => ⟨fun name length x h hname => requestRow_of_length hname h,
    fun h => ?_, fun h => ?_, requestRow_of_no_name⟩⟩
  · intro f v kind mine haddr hlegal
    have hroute : exec (.frameReceived .d data) s = .next (State.settle s (v.routeUp f)) := by
      rw [State.frameReceived_good hc hgood,
        ← State.routeD_of_legal ((State.addressesStand_congr (s.heard_straps .d .between) f).mpr haddr) hlegal]
      rfl
    rw [hroute]
    refine ⟨fun hm hk hl hroom => ?_, fun hm hk hl hroom => ?_, fun hm h => ?_, fun hd hk hl => ?_, fun hd hk hl h => ?_,
      fun k hd hk hl hw hkind => ?_, fun hm h => ?_⟩
    · rw [State.routeUp_of_own (by exact hm), State.routeOwn_of_request hk hl]
      unfold State.offerInbox
      rw [if_pos (by exact hroom)]
      rfl
    · rw [State.routeUp_of_own (by exact hm), State.routeOwn_of_request hk hl]
      unfold State.offerInbox
      rw [if_neg (by exact Nat.not_lt.mpr hroom)]
    · rw [State.routeUp_of_own (by exact hm), State.routeOwn_of_not h]
    · rw [State.routeUp_of_mark hd hk, State.routeMark_of_odd_length hl]
      rfl
    · rw [State.routeUp_of_mark hd hk, State.routeMark_of_length hl, State.showMark_of_not]
      · rfl
      · exact h.imp State.watching_eq_false.mpr markKindOf_of_out
    · rw [State.routeUp_of_mark hd hk, State.routeMark_of_length hl,
        State.showMark_of_kind (s := v) (State.watching_eq_true.mpr hw) (markKindOf_of_mem hkind)]
      rfl
    · rw [State.routeUp_of_other (by exact hm) h]
      rfl
  · rw [requestRow_control h]
    refine ⟨fun ho => ?_, fun hn ha => ?_, fun hn ha => ?_, fun hn ha => ?_⟩
    · split
      case isTrue hn => exact controlRow_of_out (ho.resolve_left (not_not_intro hn))
      · rfl
    · rw [if_pos hn]
      exact controlRow_of_odd ha
    · rw [if_pos hn]
      exact controlRow_of_halt ha
    · rw [if_pos hn, show byteAt r.body 0 = 4 from ha]
      rfl
  · rw [requestRow_loadContinue h]
    intro channels profiles suits
    have hsuits : continueLength load r.body = true ↔ suits := by
      rw [continueLength_iff]
      rfl
    exact ⟨fun hs => if_pos (hsuits.mpr hs), fun hs => if_neg (fun hc => hs (hsuits.mp hc))⟩

end Sys2Proof.Machine
end

section
/-! The frames the part originates: they pass the receive checks, and each has the layout its rule names (R133 to R135, R166,
R192, R194, R195). -/

namespace Sys2Proof.Machine

/-! ### Own frames and the receive checks -/

section
variable {kind dest source : Byte} {payload : List Byte}

theorem length_wrapFrame : (wrapFrame kind dest source payload).length = 6 + payload.length := by
  simp only [wrapFrame, enc16, List.length_append, List.length_cons, List.length_nil]
  omega

/-- The length byte of an own frame's header (R133). -/
theorem byteAt_three_wrapFrame (h : payload.length ≤ 240) :
    byteAt (wrapFrame kind dest source payload) 3 = payload.length := by
  show (BitVec.ofNat 8 payload.length).toNat = _
  rw [BitVec.toNat_ofNat, Nat.mod_eq_of_lt (by omega)]

theorem wrapFrame_passesChecks (h : payload.length ≤ 240) : PassesChecks (wrapFrame kind dest source payload) := by
  have hlen : ((([kind, dest, source, BitVec.ofNat 8 payload.length] ++ payload).getD 3 0).toNat) = payload.length :=
    byteAt_three_wrapFrame (kind := kind) (dest := dest) (source := source) h
  rw [← goodFrame_iff, wrapFrame, enc16_toNat, goodFrame_append_iff _ _ (by omega)]
  · rw [← eq_enc16_iff_append, enc16_toNat]
  · rw [hlen, List.length_append]
    rfl

theorem payload_frameOf_wrapFrame (h : payload.length ≤ 240) :
    (frameOf (wrapFrame kind dest source payload)).payload = payload := by
  show (payload ++ enc16 _).take (byteAt (wrapFrame kind dest source payload) 3) = payload
  rw [byteAt_three_wrapFrame h, List.take_left]

end

/-- Settles O16: an own frame passes the receive checks and is cut into what it was made of. -/
theorem ownFramesPassTheChecks : Obligations.OwnFramesPassTheChecks := by
  intro kind dest source payload h bytes
  refine ⟨wrapFrame_passesChecks h, length_wrapFrame.trans_le (by omega), ?_⟩
  show Frame.mk kind dest source (frameOf bytes).payload bytes = _
  rw [payload_frameOf_wrapFrame h]

/-! ### Fields of a layout -/

/-- An optional field by the bytes of its field (R192). -/
theorem encOpt_eq {α : Type} (width : Nat) (enc : α → List Byte) (x : Option α) :
    encOpt width enc x =
      match x.map enc with
      | some bytes => enc8 1 ++ bytes
      | none => List.replicate (width + 1) 0 := by
  cases x <;> rfl

/-- A list of varying length by the bytes of its items (R192). -/
theorem encList_eq {α : Type} (enc : α → List Byte) (xs : List α) :
    encList enc xs = enc8 (xs.map enc).length ++ (xs.map enc).flatten := by
  rw [encList, List.length_map, List.flatMap_def]

/-- The `j`-th byte of the `i`-th item of a list of items of one length. -/
theorem getD_flatMap {α : Type} {f : α → List Byte} {n : Nat} (hf : ∀ x, (f x).length = n) {xs : List α} {i j : Nat} {x : α}
    (hx : xs[i]? = some x) (hj : j < n) : (xs.flatMap f).getD (n * i + j) 0 = (f x).getD j 0 := by
  induction xs generalizing i with
  | nil => cases hx
  | cons y ys ih =>
    rw [List.flatMap_cons]
    cases i with
    | zero =>
      obtain rfl := Option.some.inj hx
      rw [Nat.mul_zero, Nat.zero_add, List.getD_append _ _ _ _ (by rw [hf]; exact hj)]
    | succ i =>
      have hlt : (f y).length ≤ n * (i + 1) + j := by rw [hf, Nat.mul_succ]; omega
      rw [List.getD_append_right _ _ _ _ hlt, hf, show n * (i + 1) + j - n = n * i + j by rw [Nat.mul_succ]; omega]
      exact ih hx

theorem length_encFindingResult (r : FindingResult) : (encFindingResult r).length = 3 := rfl

theorem length_encFinding (f : Finding) : (encFinding f).length = 8 + 3 * f.results.length := by
  have hitems : (f.results.flatMap encFindingResult).length = 3 * f.results.length := by
    rw [List.length_flatMap]
    simp only [length_encFindingResult, List.map_const', List.sum_replicate, smul_eq_mul]
    omega
  simp only [encFinding, encList, enc32, enc16, encFin, enc8, List.length_append, List.length_cons, List.length_nil, hitems]
  omega

/-- A byte of the results of a Finding (R195). -/
theorem getD_encFinding {f : Finding} {i j : Nat} {r : FindingResult} (hr : f.results[i]? = some r) (hj : j < 3) :
    (encFinding f).getD (8 + 3 * i + j) 0 = (encFindingResult r).getD j 0 := by
  rw [← getD_flatMap length_encFindingResult hr hj]
  show (List.append [_, _, _, _, _, _, _, _] (f.results.flatMap encFindingResult)).getD _ 0 = _
  rw [List.append_eq, List.getD_append_right _ _ _ _ (by simp; omega)]
  congr 1
  simp
  omega

theorem encReply_layout (r : Reply) {status : Nat} {body : List Nat}
    (h : encAnswer r.answer = BitVec.ofNat 8 status :: body.map (BitVec.ofNat 8)) :
    encReply r = r.name :: r.tag :: BitVec.ofNat 8 status :: body.map (BitVec.ofNat 8) := by
  rw [encReply, h]
  rfl

theorem toNat_byte {n : Nat} (h : n < 256) : (BitVec.ofNat 8 n).toNat = n := by
  rw [BitVec.toNat_ofNat, Nat.mod_eq_of_lt h]

/-- Two bytes of a number, read back (R192). -/
theorem toNat_enc16 {n : Nat} (h : n < 65536) :
    (BitVec.ofNat 8 (n / 256)).toNat * 256 + (BitVec.ofNat 8 n).toNat = n := by
  rw [BitVec.toNat_ofNat, BitVec.toNat_ofNat]
  omega

/-- Four bytes of a number, read back (R192). -/
theorem toNat_enc32 {n : Nat} (h : n < 4294967296) :
    (((BitVec.ofNat 8 (n / 65536 / 256)).toNat * 256 + (BitVec.ofNat 8 (n / 65536)).toNat) * 256 +
        (BitVec.ofNat 8 (n / 256)).toNat) * 256 + (BitVec.ofNat 8 n).toNat = n := by
  simp only [BitVec.toNat_ofNat]
  omega

/-- The first byte of the mould's optional slot is its presence, the second the slot or 0 (R192). -/
theorem encOpt_slot (x : Option (Fin 16)) :
    encOpt 1 encFin x = [BitVec.ofNat 8 (if x.isSome then 1 else 0), BitVec.ofNat 8 ((x.map Fin.val).getD 0)] := by
  cases x <;> rfl

theorem encMouldState_eq (x : MouldState) :
    encMouldState x = [BitVec.ofNat 8 (match x with | .none => 0 | .unconfirmed => 1 | .confirmed _ => 2)] := by
  cases x <;> rfl

theorem encOperating_eq (x : OpState) : encOperating x = [BitVec.ofNat 8 (if x = .watching then 1 else 0)] := by
  cases x <;> rfl

/-- The bytes of a Notice (R195). -/
theorem encNotice_eq (n : Notice) :
    encNotice n =
      enc16 n.conditions.flags.toNat ++ enc16 n.conditions.enables.toNat ++
      [BitVec.ofNat 8 (if n.operating = .watching then 1 else 0),
       BitVec.ofNat 8 (match n.mould.state with | .none => 0 | .unconfirmed => 1 | .confirmed _ => 2),
       BitVec.ofNat 8 (if n.mould.slot.isSome then 1 else 0), BitVec.ofNat 8 ((n.mould.slot.map Fin.val).getD 0)] := by
  rw [encNotice, encMould, encOperating_eq, encMouldState_eq, encOpt_slot]
  rfl

/-- Settles O17: a Reply by its answer, a Finding and a Notice byte by byte, the data of an OK field by field. -/
theorem ownFramesHaveTheirLayout : Obligations.OwnFramesHaveTheirLayout := by
  refine ⟨fun station r => ?_, fun station f hf => ?_, fun station n => ?_, fun body => ?_⟩
  · intro code
    refine ⟨rfl, ?_⟩
    cases ha : r.answer with
    | ok data =>
      exact ⟨0, (encOk data).map BitVec.toNat, encReply_layout r (by rw [ha, State.map_ofNat_toNat]; rfl), rfl, State.map_ofNat_toNat _⟩
    | more n => exact ⟨1, [n], encReply_layout r (by rw [ha]; rfl), rfl, rfl⟩
    | done n => exact ⟨2, [n], encReply_layout r (by rw [ha]; rfl), rfl, rfl⟩
    | badState op =>
      exact ⟨3, [if op = .watching then 1 else 0], encReply_layout r (by rw [ha, encAnswer, encOperating_eq]; rfl), rfl, rfl⟩
    | badArgument => exact ⟨4, [], encReply_layout r (by rw [ha]; rfl), rfl, rfl⟩
    | inUse slot => exact ⟨5, [slot.val], encReply_layout r (by rw [ha]; rfl), rfl, rfl⟩
    | loadOpen kind n =>
      exact ⟨6, [if kind = .mould then 1 else 0, n], encReply_layout r (by rw [ha]; cases kind <;> rfl), rfl, rfl⟩
    | noLoad => exact ⟨7, [], encReply_layout r (by rw [ha]; rfl), rfl, rfl⟩
    | notFound => exact ⟨8, [], encReply_layout r (by rw [ha]; rfl), rfl, rfl⟩
    | refused reason item =>
      exact ⟨9, [code reason, item], encReply_layout r (by rw [ha]; cases reason <;> rfl), rfl, rfl⟩
  · intro b verdict standing
    refine ⟨rfl, length_encFinding f, toNat_enc16 f.cycle.isLt, toNat_byte (by have := f.slot.isLt; omega),
      toNat_enc32 f.serial.isLt, toNat_byte (by omega), fun i r hr => ⟨?_, ?_, ?_⟩⟩
    · exact (congrArg BitVec.toNat (getD_encFinding hr (j := 0) (by decide))).trans
        (toNat_byte (by have := r.watchPoint.isLt; omega))
    · have hbyte : b (9 + 3 * i) = (BitVec.ofNat 8 (verdictCode r.verdict + 4 * standingCode r.standing)).toNat := by
        rw [show 9 + 3 * i = 8 + 3 * i + 1 by omega]
        exact congrArg BitVec.toNat (getD_encFinding hr (j := 1) (by decide))
      rw [hbyte]
      cases r.verdict <;> cases r.standing <;> rfl
    · have hbyte : b (10 + 3 * i) = (BitVec.ofNat 8 (r.deviations.toNat + if r.ringCut then 64 else 0)).toNat := by
        rw [show 10 + 3 * i = 8 + 3 * i + 2 by omega]
        exact congrArg BitVec.toNat (getD_encFinding hr (j := 2) (by decide))
      have hdev := r.deviations.isLt
      rw [hbyte, toNat_byte (by split <;> omega)]
  · intro b
    have hbytes (i : Nat) : b i = ((encNotice n).getD i 0).toNat := rfl
    rw [encNotice_eq] at hbytes
    refine ⟨rfl, by rw [encNotice_eq]; rfl, ?_, ?_, ?_, ?_, ?_, ?_⟩
    · rw [hbytes, hbytes]
      exact toNat_enc16 (n.conditions.flags.isLt.trans (by decide))
    · rw [hbytes, hbytes]
      exact toNat_enc16 (n.conditions.enables.isLt.trans (by decide))
    · rw [hbytes]
      exact toNat_byte (by split <;> decide)
    · rw [hbytes]
      exact toNat_byte (by split <;> decide)
    · rw [hbytes]
      exact toNat_byte (by split <;> decide)
    · rw [hbytes]
      refine toNat_byte ?_
      cases n.mould.slot with
      | none => decide
      | some x => exact x.isLt.trans (by decide)
  · intro one two four yes opt counted operating state phase cause slot point band weight profile entry result record link
    have hopt {α : Type} (width : Nat) (enc : α → List Byte) (x : Option α) : encOpt width enc x = opt width (x.map enc) :=
      encOpt_eq width enc x
    have hlist {α : Type} (enc : α → List Byte) (xs : List α) : encList enc xs = counted (xs.map enc) := encList_eq enc xs
    have hoperating (x : OpState) : encOperating x = operating x := encOperating_eq x
    have hstate (x : RecState) : encRecState x = state x := by cases x <;> rfl
    have hphase (x : RecState) : x.phase?.map encPhase = phase x := by
      cases x with
      | opened p => cases p <;> rfl
      | _ => rfl
    have hcause (x : ResetCause) : encCause x = cause x := by cases x <;> rfl
    have hband (x : Option BandProfile) : encBandProfile x = band x := by cases x <;> rfl
    have hprofile (p : Profile) : encProfile p = profile p := by
      rw [encProfile, hopt, hopt, hband, hband, hband, hband]
      rfl
    have hentry (e : SuspectEntry) : encEntry e = entry e := by
      have hs : encSuspectState e.state = one (match e.state with | .suspect => 0 | .confirmed => 1) := by
        cases e.state <;> rfl
      have hw : encJudged = fun x => one (match x with | .deviate => 2 | .clean => 3) := by
        funext x
        cases x <;> rfl
      rw [encEntry, hs, hlist, hw, hopt]
      rfl
    have hresult (e : SummaryEntry) : encSummaryEntry e = result e := by
      rw [encSummaryEntry, hopt]
      unfold verdictCode standingCode
      rfl
    have hrecord (r : RecReport) : encRecReport r = record r := by
      rw [encRecReport, hstate, hopt, hopt, hphase]
      rfl
    have hlink (l : LinkReport) : encLink l = link l := by
      unfold encLink
      cases l with
      | mk signal rx tx => cases signal <;> cases rx <;> cases tx <;> rfl
    cases body with
    | empty => rfl
    | identity x =>
      simp only [encOk, encIdentity, hcause]
      cases hs : x.straps.sigMode <;> rfl
    | status x =>
      have hload : encLoadReport x.load =
          match x.load with
          | none => [0, 0, 0, 0]
          | some l =>
            one (match l.kind with | .channels => 1 | .mould => 2) ++ opt 1 (l.slot.map slot) ++ one l.remaining := by
        cases x.load with
        | none => rfl
        | some l =>
          rw [encLoadReport, hopt]
          rfl
      have hpods : x.pods.toList.flatMap (fun p => encBool p.1 ++ encPodState p.2) =
          (x.pods.toList.map fun p => yes p.1 ++ one (if p.2 = .silent then 1 else 0)).flatten := by
        rw [List.flatMap_def]
        refine congrArg List.flatten (List.map_congr_left fun ⟨present, pod⟩ _ => ?_)
        cases pod <;> rfl
      rw [encOk]
      unfold encStatus
      rw [hload, encMould, encMouldState_eq, hopt, hopt, hopt, hopt, hoperating, hrecord, hrecord, hpods,
        hlink, hlink, List.flatMap_def]
      simp only [← List.append_assoc]
      rfl
    | control op a b => rw [encOk, hoperating, hstate, hstate]
    | restarted op x => rw [encOk, hoperating, hcause]
    | mould h judged page next =>
      rw [encOk, encHeader, hlist, hopt, show encProfile = profile from funext hprofile]
      rfl
    | confirmed x serial => rfl
    | suspects total page =>
      rw [encOk, hlist]
      simp only [hentry]
      rfl
    | released e left wrote => rw [encOk, hentry]; rfl
    | cycle n x serial count page next =>
      rw [encOk, hlist, hopt, show encSummaryEntry = result from funext hresult]
      rfl
    | cleared kept set => rfl
    | enables enables flags => rfl
    | traced held channel index c =>
      have hexam : encExamPhase c.phase = one (match c.phase with | .vibe => 2 | .ring => 3 | .strip => 4) := by
        cases c.phase <;> rfl
      rw [encOk, encBlock, hexam, List.flatMap_def]
      simp only [← List.append_assoc]
      rfl

end Sys2Proof.Machine
end

section
/-! The Marks, one by one (R4 to R11, R29, R31, R147). -/

namespace Sys2Proof.Machine

/-! ### An OPEN Mark -/

/-- A set that a condition may have joined. -/
theorem Condition.isIn_ite_bit (c d : Condition) (x : CondSet) (p : Prop) [Decidable p] :
    c.isIn (if p then x ||| d.bit else x) = true ↔ c.isIn x = true ∨ (c = d ∧ p) := by
  by_cases hp : p
  · rw [if_pos hp, Condition.isIn_or, Bool.or_eq_true, Condition.isIn_bit, decide_eq_true_iff]
    exact or_congr_right (iff_self_and.mpr fun _ => hp)
  · rw [if_neg hp]
    exact (or_iff_left fun h => hp h.2).symm

namespace State

/-- A record an OPEN Mark can open: it is FREE, or the Mark abandons it (R6). -/
def Usable (r : CycleRecord) : Prop := r.state = .free ∨ r.isOpen = true

/-- A record after an OPEN Mark's abandonment (R6). -/
def leftByOpen (r : CycleRecord) : CycleRecord := if r.isOpen = true then CycleRecord.freed r.number else r

theorem leftByOpen_free_iff (r : CycleRecord) : (leftByOpen r).state = .free ↔ Usable r := by
  unfold leftByOpen Usable
  split
  case isTrue h => exact iff_of_true rfl (.inr h)
  case isFalse h => exact (or_iff_left h).symm

theorem leftByOpen_of_not_usable {r : CycleRecord} (h : ¬Usable r) : leftByOpen r = r :=
  if_neg fun ho => h (.inr ho)

/-- The state in which the cycle of an OPEN finds its place: the OPEN record is abandoned, and the mould monitor is `m` (R5,
R6). -/
def readyToOpen (s : State) (m : Monitor) : State :=
  { s with
    tracker := { s.tracker with a := leftByOpen s.tracker.a, b := leftByOpen s.tracker.b }
    cond :=
      { s.cond with
        flags :=
          if s.tracker.a.isOpen = true ∨ s.tracker.b.isOpen = true then s.cond.flags ||| Condition.markOrder.bit
          else s.cond.flags }
    monitor := m }

/-- An OPEN Mark: it abandons, confirms, and places its cycle (R5, R6). -/
theorem takeMark_opening {s : State} (h : RecordLaw s) (n : Half) :
    ∃ m, s.takeMark .opening n = ((s.readyToOpen m).placeCycle n).synchronise ∧
      (∀ code clamp, s.AutoConfirms code clamp →
        m = { s.monitor with state := .confirmed { code := code, clamp := clamp } }) ∧
      ((∀ code clamp, ¬s.AutoConfirms code clamp) → m = s.monitor) := by
  obtain ⟨m, hm, hconfirms, hnot⟩ := s.abandonOpen.autoConfirm_spec
  have hleft := s.abandonOpen_eq h.1
  refine ⟨m, ?_, ?_, ?_⟩
  · show (s.abandonOpen.autoConfirm.placeCycle n).synchronise = _
    rw [hm, hleft]
    rfl
  · rw [hleft] at hconfirms
    exact hconfirms
  · rw [hleft] at hnot
    exact hnot

section
variable {s : State} {m : Monitor} {n : Half}

theorem placeCycle_a (ha : Usable s.tracker.a) :
    ((s.readyToOpen m).placeCycle n).synchronise =
      { s.readyToOpen m with
        tracker :=
          { s.tracker with
            a := (s.readyToOpen m).openedRecord n, b := leftByOpen s.tracker.b, untracked := none, unsync := false } } :=
  (placeCycle_eq _ n).trans (if_pos ((leftByOpen_free_iff _).mpr ha))

theorem placeCycle_b (ha : ¬Usable s.tracker.a) (hb : Usable s.tracker.b) :
    ((s.readyToOpen m).placeCycle n).synchronise =
      { s.readyToOpen m with
        tracker := { s.tracker with b := (s.readyToOpen m).openedRecord n, untracked := none, unsync := false } } := by
  refine (placeCycle_eq _ n).trans ((if_neg (mt (leftByOpen_free_iff _).mp ha)).trans
    ((if_pos ((leftByOpen_free_iff _).mpr hb)).trans ?_))
  simp only [readyToOpen, leftByOpen_of_not_usable ha]

theorem placeCycle_untracked (ha : ¬Usable s.tracker.a) (hb : ¬Usable s.tracker.b) :
    ((s.readyToOpen m).placeCycle n).synchronise =
      ({ s.readyToOpen m with tracker := { s.tracker with untracked := some n, unsync := false } } : State).raise
        .queueOverrun := by
  refine (placeCycle_eq _ n).trans ((if_neg (mt (leftByOpen_free_iff _).mp ha)).trans
    ((if_neg (mt (leftByOpen_free_iff _).mp hb)).trans ?_))
  simp only [readyToOpen, leftByOpen_of_not_usable ha, leftByOpen_of_not_usable hb]

/-- What the place of a cycle leaves of the state in which it is found (R6). -/
theorem placeCycle_frame (v : State) (n : Half) :
    ∃ tracker cond, (v.placeCycle n).synchronise = { v with tracker := tracker, cond := cond } := by
  rw [placeCycle_eq]
  split
  · exact ⟨_, _, rfl⟩
  · split
    · exact ⟨_, _, rfl⟩
    · exact ⟨_, _, rfl⟩

end

end State

open State in
/-- Settles O19: the record is found by the two records an OPEN can use; what it opens with is `openedOn`. -/
theorem openMarkOpensARecord : Obligations.OpenMarkOpensARecord := by
  intro s n hlaw t usable left fresh opened confirms
  obtain ⟨m, ht, hconfirms, hnot⟩ := takeMark_opening hlaw n
  change t = _ at ht
  have hmonitor : t.monitor = m := by
    obtain ⟨tracker, cond, hplace⟩ := placeCycle_frame (s.readyToOpen m) n
    rw [ht, hplace]
    rfl
  have hopened : (s.readyToOpen m).openedRecord n = opened := by
    have hinstalled : (s.readyToOpen m).installed = t.installed := installed_congr (congrArg Monitor.state hmonitor.symm)
    rw [openedRecord_eq (s := s) (v := s.readyToOpen m) n rfl rfl, hinstalled]
    rfl
  have hflags (c : Condition) : c.isIn (s.readyToOpen m).cond.flags = true ↔ c.isIn s.cond.flags = true ∨
      (c = .markOrder ∧ (s.tracker.a.isOpen = true ∨ s.tracker.b.isOpen = true)) := Condition.isIn_ite_bit _ _ _ _
  rw [← hmonitor] at hconfirms hnot
  refine ⟨fun wp h => mappingOf_eq_none h, fun wp i e h1 h2 h3 => mappingOf_eq_some h1 h2 h3, ?_⟩
  clear_value t
  by_cases ha : usable s.tracker.a
  · rw [placeCycle_a ha, hopened] at ht
    refine ⟨by rw [ht]; rfl, by rw [ht], by rw [ht], hconfirms, hnot, fun _ => by rw [ht]; exact ⟨rfl, rfl, rfl⟩,
      fun h => absurd ha h, fun h => absurd ha h, by rw [ht]; rfl, fun c => ?_⟩
    rw [show t.cond = (s.readyToOpen m).cond by rw [ht], hflags]
    tauto
  by_cases hb : usable s.tracker.b
  · rw [placeCycle_b ha hb, hopened] at ht
    refine ⟨by rw [ht]; rfl, by rw [ht], by rw [ht], hconfirms, hnot, fun h => absurd h ha,
      fun _ _ => by rw [ht]; exact ⟨rfl, rfl, rfl⟩, fun _ h => absurd hb h, by rw [ht]; rfl, fun c => ?_⟩
    rw [show t.cond = (s.readyToOpen m).cond by rw [ht], hflags]
    tauto
  · rw [placeCycle_untracked ha hb] at ht
    refine ⟨by rw [ht]; rfl, by rw [ht]; rfl, by rw [ht]; rfl, hconfirms, hnot, fun h => absurd h ha, fun _ h => absurd h hb,
      fun _ _ => by rw [ht]; exact ⟨rfl, rfl, rfl⟩, by rw [ht]; rfl, fun c => ?_⟩
    rw [ht, isIn_raise]
    refine (or_congr_left (hflags c)).trans ?_
    tauto

/-- The phases entered after an entry, one by one (R3, R7). -/
theorem PhasesEntered.add_eq (e : PhasesEntered) (new : Phase) :
    e.add new =
      { vibe := e.vibe || new == .vibe, ring := e.ring || new == .ring, strip := e.strip || new == .strip
        settle := e.settle || new == .settle } := by
  obtain ⟨vibe, ring, strip, settle⟩ := e
  revert vibe ring strip settle
  cases new <;> decide

/-! ### The table of R13 -/

namespace State

section
variable {s : State} {i : RecId}

theorem graceExpires_of_unmoulded (h : (s.tracker.get i).slot = none) :
    s.graceExpires i = { s with tracker := s.tracker.put i (CycleRecord.freed (s.tracker.get i).number) } :=
  if_pos (by rw [h]; rfl)

theorem graceExpires_of_wait {slot : Fin 16} (h : (s.tracker.get i).slot = some slot)
    (ho : (s.tracker.get i.other).state = .judging) :
    s.graceExpires i =
      { s with tracker := s.tracker.put i { s.tracker.get i with state := .wait, graceTimer := none } } :=
  (if_neg (by rw [h]; exact nofun)).trans (if_pos ho)

theorem graceExpires_of_judge {slot : Fin 16} {m : MouldRecord} (h : (s.tracker.get i).slot = some slot)
    (hm : s.mould slot = some m) (ho : (s.tracker.get i.other).state ≠ .judging) :
    s.graceExpires i =
      { s with
        tracker := s.tracker.put i { s.tracker.get i with state := .judging, graceTimer := none }
        verdict := { s.verdict with judging := some { record := i, mould := m } } } :=
  ((if_neg (by rw [h]; exact nofun)).trans (if_neg ho)).trans (startJudgement_eq h hm)

/-! ### A CLOSE in SETTLE -/

theorem get_closedWith (s : State) (i : RecId) (x : CycleRecord) : (s.closedWith i x).tracker.get i = x := by
  cases i <;> rfl

theorem get_closedWith_other (s : State) (i : RecId) (x : CycleRecord) :
    (s.closedWith i x).tracker.get i.other = s.tracker.get i.other := by
  cases i <;> rfl

theorem put_closedWith (s : State) (i : RecId) (x y : CycleRecord) :
    (s.closedWith i x).tracker.put i y = (s.closedWith i y).tracker := by
  cases i <;> rfl

theorem closeRec_of_unmoulded (hg : s.closeGrace = 0) (h : (s.tracker.get i).slot = none) :
    s.closeRec i = s.closedWith i (CycleRecord.freed (s.tracker.get i).number) := by
  rw [closeRec_of_no_grace i hg, graceExpires_of_unmoulded (by rw [get_closedWith]; exact h), get_closedWith, put_closedWith]
  rfl

theorem closeRec_of_wait {slot : Fin 16} (hg : s.closeGrace = 0) (h : (s.tracker.get i).slot = some slot)
    (ho : (s.tracker.get i.other).state = .judging) :
    s.closeRec i =
      s.closedWith i { s.tracker.get i with state := .wait, cycleTimer := none, graceTimer := none } := by
  rw [closeRec_of_no_grace i hg, graceExpires_of_wait (by rw [get_closedWith]; exact h) (by rw [get_closedWith_other]; exact ho),
    get_closedWith, put_closedWith]
  rfl

theorem closeRec_of_judge {slot : Fin 16} {m : MouldRecord} (hg : s.closeGrace = 0) (h : (s.tracker.get i).slot = some slot)
    (hm : s.mould slot = some m) (ho : (s.tracker.get i.other).state ≠ .judging) :
    s.closeRec i =
      { s.closedWith i { s.tracker.get i with state := .judging, cycleTimer := none, graceTimer := none } with
        verdict := { s.verdict with judging := some { record := i, mould := m } } } := by
  rw [closeRec_of_no_grace i hg, graceExpires_of_judge (s := s.closedWith i _)
    (by rw [get_closedWith]; exact h) hm (by rw [get_closedWith_other]; exact ho), get_closedWith, put_closedWith]
  rfl

/-! ### Phase Marks -/

/-- A phase Mark of the table of R7 (R7, R31, R147). -/
theorem enterPhase_eq (s : State) (i : RecId) (old : Phase) {new : Phase} (hnew : new ≠ .fill) :
    s.enterPhase i old new =
      { s with
        tracker := s.tracker.put i
          { s.tracker.get i with
            state := .opened new
            entered :=
              { vibe := (s.tracker.get i).entered.vibe || new == .vibe, ring := (s.tracker.get i).entered.ring || new == .ring
                strip := (s.tracker.get i).entered.strip || new == .strip
                settle := (s.tracker.get i).entered.settle || new == .settle }
            silenced :=
              if new = .settle then (s.tracker.get i).silenced else (s.tracker.get i).silenced ||| s.silentPods
            accs :=
              if old = .ring ∧ new = .vibe then (s.tracker.get i).accs.map Accumulator.revibrate
              else (s.tracker.get i).accs } } := by
  unfold enterPhase
  simp only [PhasesEntered.add_eq]
  cases new with
  | fill => exact absurd rfl hnew
  | _ => rfl

/-- A Mark that matches an OPEN record (R4). -/
theorem takeMark_of_matching {kind : MarkKind} {n : Half} {phase : Phase} (hlaw : RecordLaw s) (hk : kind ≠ .opening)
    (hstate : (s.tracker.get i).state = .opened phase) (hnumber : (s.tracker.get i).number = some n) :
    s.takeMark kind n = s.takeMatched kind i phase := by
  have hmatch := matching_of hlaw.1 hstate hnumber
  cases kind with
  | opening => exact absurd rfl hk
  | _ =>
    unfold takeMark
    simp only [hmatch]

theorem known_iff (s : State) (n : Half) :
    s.known n = true ↔ s.tracker.a.number = some n ∨ s.tracker.b.number = some n ∨ s.tracker.untracked = some n := by
  simp only [known, Bool.or_eq_true, beq_iff_eq, or_assoc]

/-- A Mark that matches no OPEN record (R11). -/
theorem takeUnmatched_eq (s : State) (n : Half) :
    s.takeUnmatched n =
      if s.tracker.a.number = some n ∨ s.tracker.b.number = some n ∨ s.tracker.untracked = some n ∨
          s.tracker.unsync = true then s
      else s.raise .markOrder := by
  have hquiet : (s.known n || s.tracker.unsync) = true ↔ s.tracker.a.number = some n ∨ s.tracker.b.number = some n ∨
      s.tracker.untracked = some n ∨ s.tracker.unsync = true := by
    rw [Bool.or_eq_true, known_iff, or_assoc, or_assoc]
  unfold takeUnmatched raiseIf
  split
  case isTrue h => rw [if_neg fun hq => by rw [hquiet.mpr hq] at h; cases h]
  case isFalse h => rw [if_pos (hquiet.mp (by simpa only [Bool.not_eq_true', Bool.not_eq_false] using h))]

theorem takeMark_of_no_match {kind : MarkKind} {n : Half} (hk : kind ≠ .opening)
    (h : ∀ i, ¬((s.tracker.get i).isOpen = true ∧ (s.tracker.get i).number = some n)) :
    s.takeMark kind n = s.takeUnmatched n := by
  have hmatch := matching_none h
  cases kind with
  | opening => exact absurd rfl hk
  | _ =>
    unfold takeMark
    simp only [hmatch]

end

end State

open State in
/-- Settles O20: a Mark that matches by its kind and the phase it finds, one that matches no record by its number. -/
theorem otherMarksMoveOrRaise : Obligations.OtherMarksMoveOrRaise := by
  refine ⟨fun s kind n i phase hlaw hk hstate hnumber => ?_, fun s kind n hk h => ?_, mem_silentPods⟩
  · intro r t entering abandoned
    have ht : t = s.takeMatched kind i phase := takeMark_of_matching hlaw hk hstate hnumber
    clear_value t
    subst ht
    have henter {new : Phase} (hnew : new ≠ .fill) : s.enterPhase i phase new = entering new := s.enterPhase_eq i phase hnew
    cases kind with
    | opening => exact absurd rfl hk
    | vibeOn =>
      cases phase with
      | fill => exact henter nofun
      | ring => exact henter nofun
      | _ => rfl
    | vibeOff =>
      cases phase with
      | vibe => exact henter nofun
      | _ => rfl
    | stripStart =>
      cases phase with
      | ring => exact henter nofun
      | _ => rfl
    | stripEnd =>
      cases phase with
      | strip => exact henter nofun
      | _ => rfl
    | close =>
      cases phase with
      | settle =>
        exact ⟨closeRec_of_grace i, closeRec_of_unmoulded, fun slot m hg hslot hm =>
          ⟨closeRec_of_wait hg hslot, closeRec_of_judge hg hslot hm⟩⟩
      | _ => rfl
    | abort => rfl
  · rw [takeMark_of_no_match hk h, takeUnmatched_eq]

end Sys2Proof.Machine
end

section
/-! The timers of the cycle tracker, of the pods and of the debouncers (R12, R13, R15, R17, R42 to R46, R143, R146 to R148,
R182). -/

namespace Sys2Proof.Machine

namespace State

section
variable {s : State} {i : RecId}

/-! ### Timers that run and timers that do not -/

theorem cycleTimerExpiry_of_running (ho : (s.tracker.get i).isOpen = true) (ht : (s.tracker.get i).cycleTimer.isSome = true) :
    exec (.cycleTimerExpiry i) s = .next (settle s (s.cycleExpires i)) :=
  if_pos (by rw [ho, ht]; rfl)

theorem cycleTimerExpiry_of_stopped (ht : (s.tracker.get i).cycleTimer = none) : exec (.cycleTimerExpiry i) s = .next s :=
  if_neg (by rw [ht]; simp)

theorem stallTimerExpiry_of_running (h : s.stall.timer.isSome = true) :
    exec .stallTimerExpiry s = .next (settle s s.stallExpires) := if_pos h

theorem stallTimerExpiry_of_stopped (h : s.stall.timer = none) : exec .stallTimerExpiry s = .next s :=
  if_neg (by rw [h]; exact nofun)

theorem loadTimerExpiry_of_open (h : s.engine.load.isSome = true) :
    exec .loadTimerExpiry s = .next (settle s ((s.setLoad none).raise .loadTimeout)) := if_pos h

theorem loadTimerExpiry_of_none (h : s.engine.load = none) : exec .loadTimerExpiry s = .next s :=
  if_neg (by rw [h]; exact nofun)

/-! ### Silence -/

/-- A record after a pod of it fell silent (R147). -/
def joinedBy (p : PodId) (r : CycleRecord) : CycleRecord :=
  if r.state = .opened .vibe ∨ r.state = .opened .ring ∨ r.state = .opened .strip then
    { r with silenced := r.silenced ||| BitVec.twoPow 8 p.val }
  else r

theorem joinedBy_of_not_open {r : CycleRecord} (p : PodId) (h : r.isOpen = false) : joinedBy p r = r := by
  have hnot (ph : Phase) : r.state ≠ .opened ph := fun hs => absurd ((r.isOpen_iff).mpr ⟨ph, hs⟩) (by rw [h]; exact nofun)
  exact if_neg fun ho => ho.elim (hnot .vibe) fun ho => ho.elim (hnot .ring) (hnot .strip)

theorem joinSilenced_of_openRec {p : PodId} (h : s.tracker.openRec = some i) :
    s.joinSilenced p = s.setRec i (joinedBy p (s.tracker.get i)) := by
  obtain ⟨ph, hph⟩ := (CycleRecord.isOpen_iff _).mp (Tracker.openRec_eq_some h)
  have hsame : s.setRec i (s.tracker.get i) = s := by cases i <;> rfl
  unfold joinSilenced joinedBy
  rw [h]
  simp only [hph, RecState.opened.injEq]
  cases ph with
  | fill => exact hsame.symm
  | settle => exact hsame.symm
  | _ => rfl

/-- A pod that falls silent joins the record that is OPEN in VIBE, RING or STRIP, and no other (R147). -/
theorem joinSilenced_eq (hlaw : RecordLaw s) (p : PodId) :
    s.joinSilenced p =
      { s with tracker := { s.tracker with a := joinedBy p s.tracker.a, b := joinedBy p s.tracker.b } } := by
  have hboth : ¬(s.tracker.a.isOpen = true ∧ s.tracker.b.isOpen = true) := hlaw.1
  cases hopen : s.tracker.openRec with
  | none =>
    have ha : s.tracker.a.isOpen = false := Tracker.openRec_eq_none hopen .a
    have hb : s.tracker.b.isOpen = false := Tracker.openRec_eq_none hopen .b
    rw [joinedBy_of_not_open p ha, joinedBy_of_not_open p hb]
    unfold joinSilenced
    rw [hopen]
  | some i =>
    have hi := Tracker.openRec_eq_some hopen
    rw [joinSilenced_of_openRec hopen]
    cases i with
    | a =>
      rw [joinedBy_of_not_open (r := s.tracker.b) p (Bool.not_eq_true _ ▸ fun hb => hboth ⟨hi, hb⟩)]
      rfl
    | b =>
      rw [joinedBy_of_not_open (r := s.tracker.a) p (Bool.not_eq_true _ ▸ fun ha => hboth ⟨ha, hi⟩)]
      rfl

theorem silenceTimed_iff (s : State) (p : PodId) :
    s.silenceTimed p = true ↔ s.engine.operating = .watching ∧ s.podPresent p = true ∧ ∃ ms, s.pods[p].timer = .running ms := by
  unfold silenceTimed
  rw [Bool.and_eq_true, Bool.and_eq_true, watching_eq_true, and_assoc]
  cases s.pods[p].timer <;> simp

theorem silence_eq (s : State) (p : PodId) :
    s.silence p = { s with pods := s.pods.set p.val { state := .silent, timer := .stopped } p.isLt } := by
  unfold silence mapPods
  rw [ofFn_update]
  rfl

end

end State

open State in
/-- Settles O21: each timer by whether it runs. -/
theorem timerExpiriesTakeEffect : Obligations.TimerExpiriesTakeEffect := by
  refine ⟨fun s => ⟨fun i ho ht => ?_, fun h => ?_, fun h => ?_, fun i => cycleTimerExpiry_of_stopped,
    stallTimerExpiry_of_stopped, loadTimerExpiry_of_none⟩, fun s p ms hlaw hw hp hms => ?_, fun s p h => ?_⟩
  · rw [cycleTimerExpiry_of_running ho ht]
    rfl
  · rw [stallTimerExpiry_of_running h]
    rfl
  · rw [loadTimerExpiry_of_open h]
    rfl
  · intro joined
    have htimed : s.silenceTimed p = true := (s.silenceTimed_iff p).mpr ⟨hw, hp, ms, hms⟩
    have hexec : exec (.silenceTimerExpiry p) s = .next (settle s (s.silenceExpires p)) := if_pos htimed
    rw [hexec, silenceExpires, silence_eq, joinSilenced_eq (by exact hlaw)]
    rfl
  · refine if_neg fun htimed => ?_
    obtain ⟨hw, hp, ms, hms⟩ := (s.silenceTimed_iff p).mp htimed
    rcases h with h | h | h
    · exact absurd (hw.symm.trans h) nofun
    · exact absurd (hp.symm.trans h) nofun
    · exact h ms hms

/-! ### Grace timers -/

theorem State.graceMayExpire_iff (s : State) (i : RecId) :
    s.graceMayExpire i = true ↔ (s.tracker.get i).state = .grace ∧ (s.tracker.get i).graceTimer ≠ none ∧
      ¬((s.tracker.get i.other).state = .grace ∧ s.tracker.lastClosed = some i) := by
  simp only [graceMayExpire, Bool.and_eq_true, beq_iff_eq, Bool.not_eq_true', Bool.and_eq_false_iff, Option.isSome_iff_ne_none,
    and_assoc, beq_eq_false_iff_ne, not_and_or, ne_eq]

open State in
/-- Settles O22: a grace timer that may expire, by the table of R13 (`graceExpires_of_unmoulded` and the two after it). -/
theorem graceExpiryByTheTable : Obligations.GraceExpiryByTheTable := by
  refine ⟨fun s i h => ?_, fun s i ms hstate htimer hlast => ?_⟩
  · refine if_neg fun hmay => ?_
    obtain ⟨hstate, htimer, hlast⟩ := (s.graceMayExpire_iff i).mp hmay
    exact h.elim (fun h => h hstate) fun h => h.elim htimer hlast
  · intro r
    have hmay : s.graceMayExpire i = true := (s.graceMayExpire_iff i).mpr ⟨hstate, by rw [htimer]; exact nofun, hlast⟩
    have hexec : exec (.graceExpiry i) s = .next (settle s (s.graceExpires i)) := if_pos hmay
    rw [hexec]
    refine ⟨fun hslot => by rw [graceExpires_of_unmoulded hslot], fun slot m hslot hm => ⟨fun ho => ?_, fun ho => ?_⟩⟩
    · rw [graceExpires_of_wait hslot ho]
    · rw [graceExpires_of_judge hslot hm ho]

/-! ### The debouncers -/

section
variable {α : Type} [DecidableEq α] (d : Debouncer α) (x : α)

theorem Debouncer.rawChange_eq :
    d.rawChange x =
      { d with
        raw := x
        candidate := if d.debounced = some x then none else some x
        timer := if d.debounced = some x then none else some 50 } := by
  unfold rawChange
  split
  · rfl
  · rfl

theorem Debouncer.expire_eq {α : Type} {d : Debouncer α} (h : d.busy = true) :
    d.expire = { d with debounced := d.candidate, candidate := none, timer := none } := by
  obtain ⟨raw, debounced, candidate, timer⟩ := d
  cases candidate with
  | none => cases h
  | some c => rfl

end

/-- The mould monitor at the expiry of a debounce timer, before the mould state follows (R42). -/
def Monitor.expire (m : Monitor) : Input → Monitor
  | .code => { m with code := { m.code with debounced := m.code.candidate, candidate := none, timer := none } }
  | .clamp => { m with clamp := { m.clamp with debounced := m.clamp.candidate, candidate := none, timer := none } }

namespace State

section
variable {s : State} {x : Input}

theorem debounceExpires_eq (h : s.debouncing x = true) :
    s.debounceExpires x = (s.setMonitor (s.monitor.expire x)).mouldFollows x := by
  cases x with
  | code => rw [debounceExpires, setCode, Debouncer.expire_eq h]; rfl
  | clamp => rw [debounceExpires, setClamp, Debouncer.expire_eq h]; rfl

/-- The mould leaves CONFIRMED (R17, R45, R46). -/
theorem departConfirmed_eq (hlaw : RecordLaw s) (after : MouldState) :
    s.departConfirmed after =
      ({ s with
        monitor := { s.monitor with state := after }
        tracker :=
          { s.tracker with
            a := if s.tracker.a.isOpen = true ∧ s.tracker.a.slot.isSome = true then CycleRecord.freed s.tracker.a.number
              else s.tracker.a
            b := if s.tracker.b.isOpen = true ∧ s.tracker.b.slot.isSome = true then CycleRecord.freed s.tracker.b.number
              else s.tracker.b } } : State).raise .mouldChanged := by
  unfold departConfirmed
  rw [abandonMoulded_eq _ (by exact hlaw.1)]
  rfl

end

end State

open State in
/-- Settles O23: a raw change by `Debouncer.rawChange_eq`, an expiry by the mould state it finds. A CLAMP that leaves a confirmed
mould's debounced value is released, so the state becomes NONE. -/
theorem identityInputsAreDebounced : Obligations.IdentityInputsAreDebounced := by
  refine ⟨fun s => ⟨fun x hx => ?_, fun x hx => ?_⟩, fun s x hx => ?_⟩
  · refine (if_pos (bne_iff_ne.mpr hx.symm)).trans ?_
    show Host.Outcome.next (settle s (s.setCode (s.monitor.code.rawChange x))) = _
    rw [Debouncer.rawChange_eq]
    rfl
  · refine (if_pos (bne_iff_ne.mpr hx.symm)).trans ?_
    show Host.Outcome.next (settle s (s.setClamp (s.monitor.clamp.rawChange x))) = _
    rw [Debouncer.rawChange_eq]
    rfl
  · intro m asserted dropped hlaw hmonitor
    have hexec : exec (.debounceTimerExpiry x) s = .next (settle s ((s.setMonitor m).mouldFollows x)) := by
      refine (if_pos hx).trans ?_
      show Host.Outcome.next (settle s (s.debounceExpires x)) = _
      rw [debounceExpires_eq hx]
      cases x <;> rfl
    have hstate : m.state = s.monitor.state := by cases x <;> rfl
    have hkept : { m with state := s.monitor.state } = m := by rw [← hstate]
    rw [hexec]
    cases hs : s.monitor.state with
    | none =>
      rw [hs] at hkept
      simp only
      rw [mouldFollows_of_none (s := s.setMonitor m) (hstate.trans hs)]
      by_cases hin : asserted ∧ m.code.debounced.isSome = true
      · rw [if_pos hin, if_pos (by exact hin)]
        rfl
      · rw [if_neg hin, if_neg (by exact hin), hkept]
        rfl
    | unconfirmed =>
      rw [hs] at hkept
      simp only
      rw [mouldFollows_of_unconfirmed (s := s.setMonitor m) (hstate.trans hs)]
      by_cases hin : asserted
      · rw [if_pos hin, if_pos (by exact hin), hkept]
        rfl
      · rw [if_neg hin, if_neg (by exact hin)]
        rfl
    | confirmed snap =>
      simp only
      have hconfirmed : (s.setMonitor m).monitor.state = .confirmed snap := hstate.trans hs
      cases x with
      | code =>
        rw [mouldFollows_code_of_confirmed hconfirmed, departConfirmed_eq (by exact hlaw)]
        rfl
      | clamp =>
        have hreleased : ¬asserted := fun h => by
          obtain ⟨-, hclamp, -, -, hconf⟩ := (monitorLaw_iff s).mp hmonitor
          have hcandidate : s.monitor.clamp.candidate = some true := h
          rw [DebounceOk, hcandidate] at hclamp
          exact hclamp.2.2 (hconf snap hs).2.1
        rw [mouldFollows_clamp_of_confirmed hconfirmed, if_neg (by exact hreleased), departConfirmed_eq (by exact hlaw)]
        rfl

end Sys2Proof.Machine
end

section
/-! Examined blocks: the trace ring, the attribution, and the sequence check (R26, R28, R30, R186). -/

namespace Sys2Proof.Machine

/-! ### Attribution -/

/-- A record meets the three conditions of attribution (R28). -/
def CycleRecord.Fits (r : CycleRecord) (c : Copy) : Prop :=
  (∃ n, r.number = some n ∧ n.setWidth 8 = c.cycleTag) ∧
  (r.state = .grace ∨ (r.isOpen = true ∧
    (match c.phase with
     | .vibe => r.entered.vibe
     | .ring => r.entered.ring
     | .strip => r.entered.strip) = true))

theorem PhasesEntered.has_eq (e : PhasesEntered) (ph : ExamPhase) :
    e.has ph = match ph with | .vibe => e.vibe | .ring => e.ring | .strip => e.strip := by
  cases ph <;> rfl

theorem CycleRecord.takes_iff (r : CycleRecord) (c : Copy) : r.takes c = true ↔ r.Fits c := by
  have hnumber : (match r.number with | some n => n.setWidth 8 == c.cycleTag | none => false) = true ↔
      ∃ n, r.number = some n ∧ n.setWidth 8 = c.cycleTag := by
    cases r.number <;> simp
  have hstate : (match r.state with
      | .opened _ => r.entered.has c.phase
      | .grace => true
      | .free => false
      | .wait => false
      | .judging => false) = true ↔ (r.state = .grace ∨ (r.isOpen = true ∧ r.entered.has c.phase = true)) := by
    unfold isOpen
    cases r.state <;> simp
  rw [PhasesEntered.has_eq] at hstate
  exact Bool.and_eq_true _ _ ▸ and_congr hnumber hstate

theorem Tracker.attributed_of_one {t : Tracker} {c : Copy} {i : RecId} (h : (t.get i).takes c = true)
    (ho : (t.get i.other).takes c = false) : t.attributed c = some i := by
  unfold Tracker.attributed
  cases i with
  | a => rw [show t.a.takes c = true from h, show t.b.takes c = false from ho]
  | b => rw [show t.a.takes c = false from ho, show t.b.takes c = true from h]

theorem Tracker.attributed_of_same {t : Tracker} {c : Copy} (h : t.a.takes c = t.b.takes c) : t.attributed c = none := by
  unfold Tracker.attributed
  rw [h]
  cases t.b.takes c <;> rfl

/-! ### Application -/

theorem Accumulator.fedBy_iff (x : Accumulator) (entry : Nat) :
    x.fedBy entry = true ↔ ∃ m, x.mapping = some m ∧ m.entry = entry := by
  unfold fedBy
  cases x.mapping <;> simp

theorem staleRing_iff (r : CycleRecord) (c : Copy) : staleRing r c = true ↔ c.phase = .ring ∧ r.state = .opened .vibe := by
  simp [staleRing]

theorem Trace.offer_eq (t : Trace) (c : Copy) :
    t.offer c =
      match t with
      | .running ch ring =>
        if c.entry = ch then .running ch ((if ring.length < 64 then ring else ring.drop 1) ++ [c]) else .running ch ring
      | x => x := by
  cases t with
  | off => rfl
  | frozen ch ring => rfl
  | running ch ring =>
    unfold offer ringPush
    simp only [Config.ringCapacity]
    split
    · split <;> rfl
    · rfl

/-- Settles O24: the attribution is that of the one record that fits (`CycleRecord.takes_iff`). -/
theorem examinedBlocksAreTracedAndAttributed : Obligations.ExaminedBlocksAreTracedAndAttributed := by
  intro s c rest hexam fits v
  have htakes (r : CycleRecord) : r.takes c = true ↔ fits r := r.takes_iff c
  have hexec : exec .examineBlock s = .next (State.settle s (v.applyBlock c)) := by
    have hv : (s.setExam rest).setTrace (s.trace.offer c) = v := by
      rw [Trace.offer_eq]
      rfl
    rw [← hv]
    show execExamineBlock s = _
    unfold execExamineBlock
    rw [hexam]
    rfl
  rw [hexec]
  refine ⟨fun i e hi ho he => ?_, fun hsame => ?_⟩
  · intro r
    have hattr : v.tracker.attributed c = some i :=
      Tracker.attributed_of_one ((htakes _).mpr hi) (Bool.eq_false_iff.mpr fun h => ho ((htakes _).mp h))
    have happly : v.applyBlock c = v.setRec i (r.block e s.tables.bandSets[e.bandSet] c) := by
      rw [State.applyBlock_eq, hattr, show v.tables.channels[c.entry]? = some e from he]
    rw [happly]
    by_cases hstale : c.phase = .ring ∧ r.state = .opened .vibe
    · rw [if_pos hstale, CycleRecord.block, if_pos ((staleRing_iff r c).mpr hstale)]
      cases i <;> rfl
    · rw [if_neg hstale, CycleRecord.block, if_neg (mt (staleRing_iff r c).mp hstale)]
      simp only [Accumulator.fedBy_iff]
      rfl
  · have hattr : v.tracker.attributed c = none :=
      Tracker.attributed_of_same (Bool.eq_iff_iff.mpr ((htakes _).trans (hsame.trans (htakes _).symm)))
    rw [State.applyBlock_eq]
    rw [hattr]

/-! ### The sequence check -/

theorem missingBefore_some (l q : Byte) :
    missingBefore (some l) q =
      if 1 ≤ (q.toNat + 256 - l.toNat) % 256 ∧ (q.toNat + 256 - l.toNat) % 256 ≤ 128 then
        some ((q.toNat + 256 - l.toNat) % 256 - 1)
      else none := by
  have hsub : (q - l).toNat = (q.toNat + 256 - l.toNat) % 256 := by
    have := l.isLt
    rw [BitVec.toNat_sub]
    congr 1
    omega
  rw [← hsub]
  rfl

section
variable {c : Copy}

theorem VibePart.block_of_none {v : VibePart} (bands : Option BandSet) (h : missingBefore v.last c.sequence = none) :
    v.block bands c = v := by
  unfold block
  rw [h]

theorem VibePart.block_of_some {v : VibePart} (bands : Option BandSet) {missing : Nat}
    (h : missingBefore v.last c.sequence = some missing) : v.block bands c = v.accept bands c.samples c.sequence missing := by
  unfold block
  rw [h]

theorem RingPart.block_of_none {r : RingPart} (threshold : Nat) (h : missingBefore r.last c.sequence = none) :
    r.block threshold c = r := by
  unfold block
  rw [h]

theorem RingPart.block_of_some {r : RingPart} (threshold : Nat) {missing : Nat}
    (h : missingBefore r.last c.sequence = some missing) :
    r.block threshold c =
      { state := (r.measure (quiet threshold c.samples) missing).1, count := (r.measure (quiet threshold c.samples) missing).2,
        last := some c.sequence } := by
  unfold block
  rw [h]

theorem StripPart.block_of_none {y : StripPart} (threshold span : Nat) (h : missingBefore y.last c.sequence = none) :
    y.block threshold span c = y := by
  unfold block
  rw [h]

theorem StripPart.block_of_some {y : StripPart} (threshold span : Nat) {missing : Nat}
    (h : missingBefore y.last c.sequence = some missing) :
    y.block threshold span c =
      { hits := (scan threshold span c.samples y.hits (y.carry - 32 * missing)).1
        carry := (scan threshold span c.samples y.hits (y.carry - 32 * missing)).2, last := some c.sequence } := by
  unfold block
  rw [h]

end

/-- Settles O25: the forward difference is the byte difference (`missingBefore_some`); a block changes the part of its phase. -/
theorem sequenceCheckByForwardDifference : Obligations.SequenceCheckByForwardDifference := by
  refine ⟨fun q => rfl, fun l q => ?_, fun x e bands c => ?_⟩
  · intro d
    rw [missingBefore_some]
    exact ⟨fun h => if_pos h, fun h => if_neg fun hd => h.elim (by omega) (by omega)⟩
  · intro last y
    have hsome {o : Option Nat} (h : o ≠ none) : ∃ n, o = some n := Option.ne_none_iff_exists'.mp h
    cases hph : c.phase with
    | vibe =>
      have hy : y = { x with vibe := x.vibe.block bands c } := Accumulator.block_vibe hph
      have hlast : last = x.vibe.last := by simp only [last, hph]
      rw [hy, hlast]
      refine ⟨rfl, rfl, fun h => absurd rfl h, fun _ => rfl, fun _ => rfl, fun h => ?_, fun h => ?_⟩
      · rw [VibePart.block_of_none bands h]
      · obtain ⟨n, hn⟩ := hsome h
        rw [VibePart.block_of_some bands hn]
        rfl
    | ring =>
      have hy : y = { x with ring := x.ring.block e.decayThreshold c } := Accumulator.block_ring hph
      have hlast : last = x.ring.last := by simp only [last, hph]
      rw [hy, hlast]
      refine ⟨rfl, rfl, fun _ => rfl, fun h => absurd rfl h, fun _ => rfl, fun h => ?_, fun h => ?_⟩
      · rw [RingPart.block_of_none _ h]
      · obtain ⟨n, hn⟩ := hsome h
        rw [RingPart.block_of_some _ hn]
    | strip =>
      have hy : y = { x with strip := x.strip.block e.hitThreshold e.deadSpan c } := Accumulator.block_strip hph
      have hlast : last = x.strip.last := by simp only [last, hph]
      rw [hy, hlast]
      refine ⟨rfl, rfl, fun _ => rfl, fun _ => rfl, fun h => absurd rfl h, fun h => ?_, fun h => ?_⟩
      · rw [StripPart.block_of_none _ _ h]
      · obtain ⟨n, hn⟩ := hsome h
        rw [StripPart.block_of_some _ _ hn]

end Sys2Proof.Machine
end

section
/-! Levels: the search in whole numbers finds the rounded logarithm (R33, R34), and the parts of an accumulator block by block
(R28, R32 to R38). -/

namespace Sys2Proof.Machine

/-! ### The search -/

/-- The search's weights below `2 ^ n`, largest first. -/
def levelWeights : Nat → List Nat
  | 0 => []
  | n + 1 => 2 ^ n :: levelWeights n

theorem levelOf_eq_search (num den : Nat) : levelOf num den = levelSearch num den (levelWeights 11) 0 := rfl

/-- Where the levels at least met are those up to `top`, the search ends at `top`. -/
theorem levelSearch_eq {num den top : Nat} (h : ∀ k, 1 ≤ k → k < 2048 → (levelAtLeast num den k = true ↔ k ≤ top)) (n : Nat)
    {acc : Nat} (hlow : acc ≤ top) (hhigh : top < acc + 2 ^ n) (hbound : acc + 2 ^ n ≤ 2048) :
    levelSearch num den (levelWeights n) acc = top := by
  induction n generalizing acc with
  | zero => exact Nat.le_antisymm hlow (Nat.lt_succ_iff.mp hhigh)
  | succ n ih =>
    have hpos : 0 < 2 ^ n := Nat.two_pow_pos n
    rw [Nat.pow_succ] at hhigh hbound
    have hmeets := h (acc + 2 ^ n) (by omega) (by omega)
    rw [levelWeights, levelSearch]
    by_cases hat : levelAtLeast num den (acc + 2 ^ n) = true
    · rw [if_pos hat]
      exact ih (hmeets.mp hat) (by omega) (by omega)
    · rw [if_neg hat]
      have hbelow := mt hmeets.mpr hat
      exact ih hlow (by omega) (by omega)

/-! ### The logarithm -/

/-- The level of a mean square is at least `k` by a comparison of powers (R33). -/
theorem levelAtLeast_iff {num den k : Nat} (hden : 0 < den) :
    levelAtLeast num den k = true ↔ (10 : ℝ) ^ (2 * k - 1) ≤ ((num : ℝ) / den) ^ 320 := by
  have hpos : (0 : ℝ) < (den : ℝ) ^ 320 := by positivity
  rw [levelAtLeast, decide_eq_true_iff, div_pow, le_div_iff₀ hpos]
  exact_mod_cast Iff.rfl

theorem pow_le_pow_iff_logb {x : ℝ} (hx : 0 < x) {k : Nat} (hk : 1 ≤ k) :
    (10 : ℝ) ^ (2 * k - 1) ≤ x ^ 320 ↔ (k : ℤ) ≤ ⌊160 * Real.logb 10 x + 1 / 2⌋ := by
  have hexp : ((2 * k - 1 : ℕ) : ℝ) = 2 * k - 1 := by
    rw [Nat.cast_sub (by omega)]
    push_cast
    ring
  rw [Int.le_floor, ← Real.logb_le_logb (b := 10) (by norm_num) (by positivity) (by positivity), Real.logb_pow, Real.logb_pow,
    Real.logb_self_eq_one (by norm_num), hexp]
  push_cast
  constructor <;> intro h <;> linarith

theorem exactLevel_eq (x : ℝ) : exactLevel x = min 2047 ⌊160 * Real.logb 10 x + 1 / 2⌋.toNat := by
  unfold exactLevel
  omega

theorem exactLevel_zero : exactLevel 0 = 0 := by
  have : ⌊(1 / 2 : ℝ)⌋ = 0 := by norm_num
  rw [exactLevel_eq, Real.logb_zero, mul_zero, zero_add, this]
  rfl

theorem levelOf_eq (num : Nat) {den : Nat} (hden : 0 < den) : levelOf num den = exactLevel ((num : ℝ) / den) := by
  rw [levelOf_eq_search]
  refine levelSearch_eq (fun k hk hlt => ?_) 11 (Nat.zero_le _) ?_ (by decide)
  · rw [levelAtLeast_iff hden]
    rcases Nat.eq_zero_or_pos num with rfl | hnum
    · rw [Nat.cast_zero, zero_div, exactLevel_zero, zero_pow (by decide)]
      exact iff_of_false (not_le.mpr (by positivity)) (by omega)
    · rw [pow_le_pow_iff_logb (by positivity) hk, exactLevel_eq]
      omega
  · rw [exactLevel_eq]
    omega

/-- The sum of a block's squares (R34). -/
theorem sumSquares_eq (samples : List Sample) :
    (sumSquares samples : ℝ) = (samples.map fun x => (x.toInt : ℝ) ^ 2).sum := by
  unfold sumSquares
  induction samples with
  | nil => simp
  | cons x xs ih =>
    rw [List.map_cons, List.sum_cons, List.map_cons, List.sum_cons, Nat.cast_add, ih]
    congr 1
    rw [Nat.cast_mul, Nat.cast_natAbs, Int.cast_abs, abs_mul_abs_self, sq]

theorem broadbandLevel_eq (samples : List Sample) : broadbandLevel samples = exactLevel ((sumSquares samples : ℝ) / 32) := by
  rw [broadbandLevel, levelOf_eq _ (by decide)]
  rfl

/-- Settles O27: the powers compare as the logarithms do (`pow_le_pow_iff_logb`), and the search finds the greatest level met. -/
theorem levelsAreRoundedLogarithms : Obligations.LevelsAreRoundedLogarithms :=
  ⟨fun num _ hden => levelOf_eq num hden, fun samples => by rw [broadbandLevel_eq, sumSquares_eq]⟩

/-! ### Blocks reach their part -/

theorem quiet_iff (threshold : Nat) (samples : List Sample) :
    quiet threshold samples = true ↔ exactLevel ((sumSquares samples : ℝ) / 32) < threshold := by
  rw [quiet, decide_eq_true_iff, broadbandLevel_eq]

section
variable {r : RingPart} {isQuiet : Bool} {missing : Nat}

theorem RingPart.measure_of_waiting (h : r.state = .waiting) :
    r.measure isQuiet missing = if isQuiet = true then (.ended, 0) else (.counting, 1) := by
  simp only [measure, h]

theorem RingPart.measure_of_counting (h : r.state = .counting) :
    r.measure isQuiet missing =
      if missing ≠ 0 then (.gap, r.count)
      else if isQuiet = true then (.ended, r.count)
      else if r.count + 1 < 255 then (.counting, r.count + 1)
      else (.ended, 255) := by
  simp only [measure, h]

theorem RingPart.measure_of_over (h : r.state = .ended ∨ r.state = .gap) :
    r.measure isQuiet missing = (r.state, r.count) := by
  rcases h with h | h <;> simp only [measure, h]

end

/-- Settles O26: the accepted block's part by its definition; a RING block by the state it finds (`RingPart.measure_of_waiting`
and the two after it). -/
theorem blocksAreAppliedToTheirPart : Obligations.BlocksAreAppliedToTheirPart := by
  refine ⟨fun x e bands c => rfl, ⟨fun v bands c missing h => VibePart.block_of_some _ h, fun r threshold c missing h => ?_⟩,
    fun threshold span hits carry x xs => ⟨rfl, fun h => ?_, fun h hx => ?_, fun h hx => ?_⟩,
    fun y threshold span c missing h => StripPart.block_of_some _ _ h,
    fun threshold span samples hits carry => scan_hits_le samples⟩
  · intro isQuiet y
    have hy : y = _ := RingPart.block_of_some threshold h
    have hquiet : quiet threshold c.samples = true ↔ isQuiet := quiet_iff _ _
    have hmeasure : (y.state, y.count) = r.measure (quiet threshold c.samples) missing := by rw [hy]
    have hpair {st : RingState} {n : Nat} (hm : r.measure (quiet threshold c.samples) missing = (st, n)) :
        y.state = st ∧ y.count = n := Prod.mk.inj (hmeasure.trans hm)
    refine ⟨by rw [hy], fun hs hq => hpair ?_, fun hs hq => hpair ?_, fun hs hm => hpair ?_, fun hs hm hq => hpair ?_,
      fun hs hm hq hn => hpair ?_, fun hs hm hq hn => hpair ?_, fun hs => hpair (RingPart.measure_of_over hs)⟩
    · rw [RingPart.measure_of_waiting hs, if_pos (hquiet.mpr hq)]
    · rw [RingPart.measure_of_waiting hs, if_neg (mt hquiet.mp hq)]
    · rw [RingPart.measure_of_counting hs, if_pos hm]
    · rw [RingPart.measure_of_counting hs, if_neg (not_not_intro hm), if_pos (hquiet.mpr hq)]
    · rw [RingPart.measure_of_counting hs, if_neg (not_not_intro hm), if_neg (mt hquiet.mp hq), if_pos (by omega)]
    · rw [RingPart.measure_of_counting hs, if_neg (not_not_intro hm), if_neg (mt hquiet.mp hq), if_neg (by omega)]
  · rw [scan, List.foldl_cons, scanSample, if_pos h]
    rfl
  · rw [scan, List.foldl_cons, scanSample, if_neg (Nat.not_lt.mpr h.le), if_pos hx]
    rfl
  · rw [scan, List.foldl_cons, scanSample, if_neg (Nat.not_lt.mpr h.le), if_neg (Nat.not_lt.mpr hx), h]
    rfl

end Sys2Proof.Machine
end

section
/-! Interval arithmetic on multiples of 2^-p encloses the arithmetic of the real numbers (R23, R32; log 12). -/

namespace Sys2Proof.Machine

/-- A real number lies between the bounds of a span, at precision `p`. -/
structure Span.Encloses (p : Nat) (x : Span) (r : ℝ) : Prop where
  low  : (x.lo : ℝ) ≤ r * 2 ^ p
  high : r * 2 ^ p ≤ (x.hi : ℝ)

/-! ### Whole parts -/

theorem floorShift_le (p : Nat) (x : ℤ) : (floorShift p x : ℝ) ≤ (x : ℝ) / 2 ^ p := by
  have h : ((x / ((2 ^ p : ℕ) : ℤ) : ℤ) : ℝ) ≤ (x : ℝ) / ((2 ^ p : ℕ) : ℤ) := by
    rw [le_div_iff₀ (by positivity)]
    exact_mod_cast Int.ediv_mul_le x (by positivity)
  simpa [floorShift] using h

theorem le_ceilShift (p : Nat) (x : ℤ) : (x : ℝ) / 2 ^ p ≤ (ceilShift p x : ℝ) := by
  have h := floorShift_le p (-x)
  unfold ceilShift
  unfold floorShift at h
  push_cast at h ⊢
  rw [neg_div] at h
  linarith

/-- A quotient rounded down, by a divisor above 0. -/
theorem ediv_cast_le (x : ℤ) {n : ℤ} (hn : 0 < n) : ((x / n : ℤ) : ℝ) ≤ (x : ℝ) / n := by
  rw [le_div_iff₀ (by exact_mod_cast hn)]
  exact_mod_cast Int.ediv_mul_le x hn.ne'

theorem le_neg_neg_ediv_cast (x : ℤ) {n : ℤ} (hn : 0 < n) : (x : ℝ) / n ≤ ((-((-x) / n) : ℤ) : ℝ) := by
  have h := ediv_cast_le (-x) hn
  push_cast at h ⊢
  rw [neg_div] at h
  linarith

/-- A product with one factor between bounds lies between the products with the bounds. -/
theorem mul_between {a b x : ℝ} (ha : a ≤ x) (hb : x ≤ b) (y : ℝ) : min (a * y) (b * y) ≤ x * y ∧ x * y ≤ max (a * y) (b * y) := by
  rcases le_total 0 y with hy | hy
  · exact ⟨(min_le_left _ _).trans (mul_le_mul_of_nonneg_right ha hy), (mul_le_mul_of_nonneg_right hb hy).trans (le_max_right _ _)⟩
  · exact ⟨(min_le_right _ _).trans (mul_le_mul_of_nonpos_right hb hy),
      (mul_le_mul_of_nonpos_right ha hy).trans (le_max_left _ _)⟩

/-- A product of two factors between bounds lies between the products of the bounds. -/
theorem mul_between_corners {a b c d x y : ℝ} (ha : a ≤ x) (hb : x ≤ b) (hc : c ≤ y) (hd : y ≤ d) :
    min (min (a * c) (a * d)) (min (b * c) (b * d)) ≤ x * y ∧ x * y ≤ max (max (a * c) (a * d)) (max (b * c) (b * d)) := by
  obtain ⟨hlow, hhigh⟩ := mul_between ha hb y
  obtain ⟨halow, hahigh⟩ := mul_between hc hd a
  obtain ⟨hblow, hbhigh⟩ := mul_between hc hd b
  simp only [mul_comm _ a, mul_comm _ b] at halow hahigh hblow hbhigh
  exact ⟨(min_le_min halow hblow).trans hlow, hhigh.trans (max_le_max hahigh hbhigh)⟩

/-- A lower bound of a quotient whose divisor lies between `c` and `d` above 0: by the sign of the dividend's lower bound. -/
theorem div_le_of_bounds {a x c y d n : ℝ} (ha : a ≤ x) (hc : 0 < c) (hcy : c ≤ y) (hyd : y ≤ d)
    (hn : (0 ≤ a ∧ n = d) ∨ (a ≤ 0 ∧ n = c)) : a / n ≤ x / y := by
  have hy : 0 < y := hc.trans_le hcy
  rcases hn with ⟨ha0, rfl⟩ | ⟨ha0, rfl⟩
  · exact div_le_div₀ (ha0.trans ha) ha hy hyd
  · have hneg : -a / y ≤ -a / n := div_le_div_of_nonneg_left (by linarith) hc hcy
    rw [neg_div, neg_div] at hneg
    exact (neg_le_neg_iff.mp hneg).trans (by gcongr)

theorem le_div_of_bounds {x b c y d n : ℝ} (hb : x ≤ b) (hc : 0 < c) (hcy : c ≤ y) (hyd : y ≤ d)
    (hn : (0 ≤ b ∧ n = c) ∨ (b ≤ 0 ∧ n = d)) : x / y ≤ b / n := by
  have h := div_le_of_bounds (neg_le_neg hb) hc hcy hyd (n := n)
    (hn.symm.imp (And.imp_left neg_nonneg.mpr) (And.imp_left neg_nonpos.mpr))
  rw [neg_div, neg_div] at h
  exact neg_le_neg_iff.mp h

namespace Span.Encloses

variable {p : Nat} {x y t : Span} {r s : ℝ}

theorem ofInt (p : Nat) (k : ℤ) : (Span.ofInt p k).Encloses p k := by
  constructor <;> simp [Span.ofInt]

theorem zero (p : Nat) : (⟨0, 0⟩ : Span).Encloses p 0 := by
  constructor <;> simp

theorem add (hx : x.Encloses p r) (hy : y.Encloses p s) : (x.add y).Encloses p (r + s) := by
  obtain ⟨hxl, hxh⟩ := hx
  obtain ⟨hyl, hyh⟩ := hy
  constructor <;> simp only [Span.add, Int.cast_add, add_mul] <;> linarith

theorem sub (hx : x.Encloses p r) (hy : y.Encloses p s) : (x.sub y).Encloses p (r - s) := by
  obtain ⟨hxl, hxh⟩ := hx
  obtain ⟨hyl, hyh⟩ := hy
  constructor <;> simp only [Span.sub, Int.cast_sub, sub_mul] <;> linarith

theorem scale (hx : x.Encloses p r) (k : ℤ) : (x.scale k).Encloses p (k * r) := by
  obtain ⟨hxl, hxh⟩ := hx
  unfold Span.scale
  split
  case isTrue hk =>
    have hk' : (0 : ℝ) ≤ k := by exact_mod_cast hk
    constructor <;> push_cast <;> rw [mul_assoc]
    · exact mul_le_mul_of_nonneg_left hxl hk'
    · exact mul_le_mul_of_nonneg_left hxh hk'
  case isFalse hk =>
    have hk' : (k : ℝ) ≤ 0 := by exact_mod_cast (not_le.mp hk).le
    constructor <;> push_cast <;> rw [mul_assoc]
    · exact mul_le_mul_of_nonpos_left hxh hk'
    · exact mul_le_mul_of_nonpos_left hxl hk'

theorem mul (hx : x.Encloses p r) (hy : y.Encloses p s) : (x.mul p y).Encloses p (r * s) := by
  obtain ⟨hxl, hxh⟩ := hx
  obtain ⟨hyl, hyh⟩ := hy
  obtain ⟨hlow, hhigh⟩ := mul_between_corners hxl hxh hyl hyh
  have hpos : (0 : ℝ) < 2 ^ p := by positivity
  have hprod : r * s * 2 ^ p = r * 2 ^ p * (s * 2 ^ p) / 2 ^ p := by
    rw [eq_div_iff hpos.ne']
    ring
  constructor
  · refine (floorShift_le p _).trans ?_
    rw [hprod]
    gcongr
    push_cast
    exact hlow
  · refine le_trans ?_ (le_ceilShift p _)
    rw [hprod]
    gcongr
    push_cast
    exact hhigh

theorem divNat (hx : x.Encloses p r) {n : Nat} (hn : 0 < n) : (x.divNat n).Encloses p (r / n) := by
  obtain ⟨hxl, hxh⟩ := hx
  have hn' : (0 : ℤ) < n := by exact_mod_cast hn
  have hpos : (0 : ℝ) < n := by exact_mod_cast hn
  have hquot : r / n * 2 ^ p = r * 2 ^ p / (n : ℤ) := by
    push_cast
    ring
  constructor
  · refine (ediv_cast_le x.lo hn').trans ?_
    rw [hquot]
    push_cast
    gcongr
  · refine le_trans ?_ (le_neg_neg_ediv_cast x.hi hn')
    rw [hquot]
    push_cast
    gcongr

theorem div (hx : x.Encloses p r) (hy : y.Encloses p s) {z : Span} (hz : x.div p y = some z) : z.Encloses p (r / s) := by
  obtain ⟨hxl, hxh⟩ := hx
  obtain ⟨hyl, hyh⟩ := hy
  unfold Span.div at hz
  split at hz
  case isFalse => cases hz
  case isTrue hpos =>
    obtain rfl := Option.some.inj hz
    have hlo : (0 : ℝ) < y.lo := by exact_mod_cast hpos
    have hscaled : 0 < s * 2 ^ p := hlo.trans_le hyl
    have hhi : 0 < y.hi := by exact_mod_cast hscaled.trans_le hyh
    have hp : (0 : ℝ) < 2 ^ p := by positivity
    have hquot : r / s * 2 ^ p = r * 2 ^ p * 2 ^ p / (s * 2 ^ p) := by
      have hs : s ≠ 0 := fun h => by simp [h] at hscaled
      field_simp
    rw [← mul_le_mul_iff_left₀ hp] at hxl hxh
    constructor
    · rw [hquot]
      refine (ediv_cast_le _ (by split <;> assumption)).trans ?_
      push_cast
      refine div_le_of_bounds hxl hlo hyl hyh ?_
      split
      case isTrue h => exact .inl ⟨mul_nonneg (by exact_mod_cast h) hp.le, rfl⟩
      case isFalse h =>
        exact .inr ⟨mul_nonpos_of_nonpos_of_nonneg (by exact_mod_cast (not_le.mp h).le) hp.le, rfl⟩
    · rw [hquot]
      refine le_trans ?_ (le_neg_neg_ediv_cast _ (by split <;> assumption))
      push_cast
      refine le_div_of_bounds hxh hlo hyl hyh ?_
      split
      case isTrue h => exact .inl ⟨mul_nonneg (by exact_mod_cast h) hp.le, rfl⟩
      case isFalse h =>
        exact .inr ⟨mul_nonpos_of_nonpos_of_nonneg (by exact_mod_cast (not_le.mp h).le) hp.le, rfl⟩

/-- A span widened by a bound of the distance. -/
theorem widen (hx : x.Encloses p r) (ht : t.Encloses p s) {l : ℝ} (hl : |l - r| ≤ s) : (x.widen t).Encloses p l := by
  obtain ⟨hxl, hxh⟩ := hx
  obtain ⟨-, hth⟩ := ht
  obtain ⟨hlow, hhigh⟩ := abs_sub_le_iff.mp hl
  have hp : (0 : ℝ) < 2 ^ p := by positivity
  have h1 : l * 2 ^ p ≤ r * 2 ^ p + s * 2 ^ p := by rw [← add_mul]; gcongr; linarith
  have h2 : r * 2 ^ p - s * 2 ^ p ≤ l * 2 ^ p := by rw [← sub_mul]; gcongr; linarith
  constructor <;> simp only [Span.widen, Int.cast_add, Int.cast_sub] <;> linarith

theorem square (hx : x.Encloses p r) : (x.square p).Encloses p (r ^ 2) := by
  obtain ⟨hl, hh⟩ := hx.mul hx
  rw [← sq] at hl hh
  constructor
  · unfold Span.square
    rw [Int.cast_max]
    exact max_le hl (by rw [Int.cast_zero]; positivity)
  · exact hh

end Span.Encloses

/-! ### The square root of 2 -/

/-- The search keeps a root whose square is within the target and, with the bits to come, beyond it. -/
theorem sqrtBits_spec (target : Nat) (n : Nat) {r : Nat} (hlow : r * r ≤ target) (hhigh : target < (r + 2 ^ n) * (r + 2 ^ n)) :
    sqrtBits target n r * sqrtBits target n r ≤ target ∧ target < (sqrtBits target n r + 1) * (sqrtBits target n r + 1) := by
  induction n generalizing r with
  | zero => exact ⟨hlow, hhigh⟩
  | succ n ih =>
    rw [sqrtBits]
    split
    case isTrue h =>
      refine ih h ?_
      rwa [Nat.pow_succ, Nat.mul_two, ← Nat.add_assoc] at hhigh
    case isFalse h => exact ih hlow (Nat.lt_of_not_le h)

theorem encloses_sqrtTwo (p : Nat) : (sqrtTwo p).Encloses p (Real.sqrt 2) := by
  have hpow : (0 + 2 ^ (p + 1)) * (0 + 2 ^ (p + 1)) = 4 * 4 ^ p := by
    rw [Nat.zero_add, ← Nat.pow_add, show p + 1 + (p + 1) = 2 * p + 2 by omega, Nat.pow_add, Nat.pow_mul]
    norm_num
    ring
  have hpos : 0 < 4 ^ p := by positivity
  obtain ⟨hlow, hhigh⟩ := sqrtBits_spec (2 * 4 ^ p) (p + 1) (r := 0) (Nat.zero_le _) (by omega)
  have hsquare : (Real.sqrt 2 * 2 ^ p) * (Real.sqrt 2 * 2 ^ p) = 2 * 4 ^ p := by
    rw [mul_mul_mul_comm, Real.mul_self_sqrt (by norm_num), ← mul_pow]
    norm_num
  unfold sqrtTwo
  generalize sqrtBits (2 * 4 ^ p) (p + 1) 0 = r at hlow hhigh ⊢
  have hlow' : (r : ℝ) * r ≤ (Real.sqrt 2 * 2 ^ p) * (Real.sqrt 2 * 2 ^ p) := by
    rw [hsquare]
    exact_mod_cast hlow
  have hhigh' : (Real.sqrt 2 * 2 ^ p) * (Real.sqrt 2 * 2 ^ p) ≤ ((r : ℝ) + 1) * (r + 1) := by
    rw [hsquare]
    exact_mod_cast hhigh.le
  constructor
  · exact (mul_self_le_mul_self_iff (by positivity) (by positivity)).mpr hlow'
  · push_cast
    exact (mul_self_le_mul_self_iff (by positivity) (by positivity)).mpr hhigh'

end Sys2Proof.Machine
end

section
/-! Pi, sine, cosine and tangent by their series, in interval arithmetic: an alternating series is enclosed by a truncated sum
widened by the first term left out (R23; log 12). -/

namespace Sys2Proof.Machine

open Finset in
/-- The sum of an alternating series whose terms fall differs from a truncated sum by at most the first term left out. -/
theorem alternating_error {f : Nat → ℝ} {l : ℝ} (hpos : ∀ n, 0 ≤ f n) (hfall : Antitone f)
    (h : HasSum (fun n => (-1) ^ n * f n) l) (n : Nat) : |l - ∑ i ∈ range n, (-1) ^ i * f i| ≤ f n := by
  have habs : Summable f := by
    refine (summable_abs_iff.mpr h.summable).congr fun k => ?_
    rw [abs_mul, abs_pow, abs_neg, abs_one, one_pow, one_mul, abs_of_nonneg (hpos k)]
  rw [← h.tsum_eq]
  exact alternating_series_error_bound f hfall habs n

namespace Span.Encloses

variable {p : Nat} {x t acc : Span} {r l : ℝ}

/-- One more term of an alternating series. -/
theorem addTerm {f : Nat → ℝ} {k : Nat} (hacc : acc.Encloses p (∑ i ∈ Finset.range k, (-1) ^ i * f i))
    (ht : t.Encloses p (f k)) :
    (if k % 2 = 0 then acc.add t else acc.sub t).Encloses p (∑ i ∈ Finset.range (k + 1), (-1) ^ i * f i) := by
  rw [Finset.sum_range_succ]
  split
  case isTrue h =>
    rw [(Nat.even_iff.mpr h).neg_one_pow, one_mul]
    exact hacc.add ht
  case isFalse h =>
    rw [(Nat.odd_iff.mpr (by omega)).neg_one_pow, neg_one_mul, ← sub_eq_add_neg]
    exact hacc.sub ht

/-- The sum of an alternating series from its terms (log 12). -/
theorem alternating {f : Nat → ℝ} {next : Nat → Span → Span} (hpos : ∀ n, 0 ≤ f n) (hfall : Antitone f)
    (hsum : HasSum (fun n => (-1) ^ n * f n) l)
    (hnext : ∀ k t, t.Encloses p (f k) → (next k t).Encloses p (f (k + 1))) (n : Nat) {k : Nat}
    (ht : t.Encloses p (f k)) (hacc : acc.Encloses p (∑ i ∈ Finset.range k, (-1) ^ i * f i)) :
    (Machine.alternating next n k t acc).Encloses p l := by
  induction n generalizing k t acc with
  | zero => exact hacc.widen ht (alternating_error hpos hfall hsum k)
  | succ n ih => exact ih (hnext k t ht) (hacc.addTerm ht)

/-! ### Pi -/

/-- The terms of the arc tangent's series at `1 / q`. -/
theorem arctan_terms {q : Nat} (hq : 2 ≤ q) :
    HasSum (fun n : Nat => (-1) ^ n * (((q : ℝ)⁻¹) ^ (2 * n + 1) / ((2 * n + 1 : ℕ) : ℝ))) (Real.arctan (q : ℝ)⁻¹) ∧
    Antitone (fun n : Nat => ((q : ℝ)⁻¹) ^ (2 * n + 1) / ((2 * n + 1 : ℕ) : ℝ)) := by
  have hq' : (2 : ℝ) ≤ q := by exact_mod_cast hq
  have hpos : (0 : ℝ) < (q : ℝ)⁻¹ := by positivity
  have hlt : (q : ℝ)⁻¹ < 1 := inv_lt_one_of_one_lt₀ (by linarith)
  constructor
  · have h := Real.hasSum_arctan (x := (q : ℝ)⁻¹) (by rwa [Real.norm_of_nonneg hpos.le])
    simpa only [mul_div_assoc] using h
  · refine antitone_nat_of_succ_le fun n => ?_
    refine div_le_div₀ (by positivity) (pow_le_pow_of_le_one hpos.le hlt.le (by omega)) (by positivity) ?_
    exact_mod_cast (by omega : 2 * n + 1 ≤ 2 * (n + 1) + 1)

theorem arctanInvSum {q : Nat} (hq : 2 ≤ q) (n : Nat) {k : Nat} (ht : t.Encloses p ((q : ℝ)⁻¹ ^ (2 * k + 1)))
    (hacc : acc.Encloses p (∑ i ∈ Finset.range k, (-1) ^ i * ((q : ℝ)⁻¹ ^ (2 * i + 1) / ((2 * i + 1 : ℕ) : ℝ)))) :
    (Machine.arctanInvSum q n k t acc).Encloses p (Real.arctan (q : ℝ)⁻¹) := by
  obtain ⟨hsum, hfall⟩ := arctan_terms hq
  induction n generalizing k t acc with
  | zero =>
    exact hacc.widen (ht.divNat (n := 2 * k + 1) (by omega)) (alternating_error (fun n => by positivity) hfall hsum k)
  | succ n ih =>
    have hpower : (t.divNat (q * q)).Encloses p ((q : ℝ)⁻¹ ^ (2 * (k + 1) + 1)) := by
      have h := ht.divNat (n := q * q) (Nat.mul_pos (by omega) (by omega))
      have heq : (q : ℝ)⁻¹ ^ (2 * k + 1) / ((q * q : ℕ) : ℝ) = (q : ℝ)⁻¹ ^ (2 * (k + 1) + 1) := by
        rw [show 2 * (k + 1) + 1 = 2 * k + 1 + 2 by ring, pow_add _ (2 * k + 1) 2, div_eq_mul_inv]
        push_cast
        rw [mul_inv, sq]
      rwa [heq] at h
    exact ih hpower (hacc.addTerm (f := fun i => (q : ℝ)⁻¹ ^ (2 * i + 1) / ((2 * i + 1 : ℕ) : ℝ)) (ht.divNat (by omega)))

theorem arctanInv (p : Nat) {q : Nat} (hq : 2 ≤ q) : (Machine.arctanInv p q).Encloses p (Real.arctan (q : ℝ)⁻¹) := by
  refine arctanInvSum hq _ ?_ (by simpa using zero p)
  have h := (ofInt p 1).divNat (n := q) (by omega)
  simpa using h

/-- Machin's formula (R23). -/
theorem piSpan (p : Nat) : (Machine.piSpan p).Encloses p Real.pi := by
  have h := ((arctanInv p (q := 5) (by decide)).scale 16).sub ((arctanInv p (q := 239) (by decide)).scale 4)
  have hmachin := Real.four_mul_arctan_inv_5_sub_arctan_inv_239
  have heq : ((16 : ℤ) : ℝ) * Real.arctan ((5 : ℕ) : ℝ)⁻¹ - ((4 : ℤ) : ℝ) * Real.arctan ((239 : ℕ) : ℝ)⁻¹ = Real.pi := by
    push_cast
    linarith
  rwa [heq] at h

/-! ### Sine, cosine and tangent -/

/-- The quotient of two terms that stand next to each other in a series over factorials. -/
theorem factorial_step (r : ℝ) (n : Nat) :
    r ^ n / (n.factorial : ℝ) * (r * r) / (((n + 1) * (n + 2) : ℕ) : ℝ) = r ^ (n + 2) / ((n + 2).factorial : ℝ) := by
  rw [Nat.factorial_succ, Nat.factorial_succ]
  push_cast
  have : (n.factorial : ℝ) ≠ 0 := by positivity
  field_simp
  ring

theorem factorial_fall {r : ℝ} (h0 : 0 ≤ r) (n : Nat) (h : r * r ≤ (n + 1) * (n + 2)) :
    r ^ (n + 2) / ((n + 2).factorial : ℝ) ≤ r ^ n / (n.factorial : ℝ) := by
  rw [← factorial_step, div_le_iff₀ (by positivity)]
  refine mul_le_mul_of_nonneg_left ?_ (by positivity)
  push_cast
  exact h

theorem sinSpan (hx : x.Encloses p r) (h0 : 0 ≤ r) (h1 : r * r ≤ 2) : (Machine.sinSpan p x).Encloses p (Real.sin r) := by
  refine alternating (f := fun n => r ^ (2 * n + 1) / ((2 * n + 1).factorial : ℝ)) (fun n => by positivity) ?_ ?_
    (fun k t ht => ?_) _ ?_ (by simpa using zero p)
  · refine antitone_nat_of_succ_le fun n => factorial_fall h0 (2 * n + 1) ?_
    push_cast
    nlinarith [(Nat.cast_nonneg n : (0 : ℝ) ≤ n)]
  · simpa only [mul_div_assoc] using Real.hasSum_sin r
  · have h := (ht.mul (hx.mul hx)).divNat (n := (2 * k + 2) * (2 * k + 3)) (by positivity)
    rwa [factorial_step r (2 * k + 1)] at h
  · simpa using hx

theorem cosSpan (hx : x.Encloses p r) (h0 : 0 ≤ r) (h1 : r * r ≤ 2) : (Machine.cosSpan p x).Encloses p (Real.cos r) := by
  refine alternating (f := fun n => r ^ (2 * n) / ((2 * n).factorial : ℝ)) (fun n => by positivity) ?_ ?_
    (fun k t ht => ?_) _ ?_ (by simpa using zero p)
  · refine antitone_nat_of_succ_le fun n => factorial_fall h0 (2 * n) ?_
    push_cast
    nlinarith [(Nat.cast_nonneg n : (0 : ℝ) ≤ n)]
  · simpa only [mul_div_assoc] using Real.hasSum_cos r
  · have h := (ht.mul (hx.mul hx)).divNat (n := (2 * k + 1) * (2 * k + 2)) (by positivity)
    rwa [factorial_step r (2 * k)] at h
  · simpa using ofInt p 1

/-- The angle of an edge in the range of R22 is below the square root of 2. -/
theorem edge_angle {f : Nat} (hf : f ≤ 20000) : Real.pi * f / 48000 * (Real.pi * f / 48000) ≤ 2 := by
  have hf' : (f : ℝ) ≤ 20000 := by exact_mod_cast hf
  have hangle : Real.pi * f / 48000 ≤ 1.4 := by
    rw [div_le_iff₀ (by norm_num)]
    nlinarith [Real.pi_lt_d2, Real.pi_pos]
  have hpos : 0 ≤ Real.pi * f / 48000 := by have := Real.pi_pos; positivity
  nlinarith

theorem tanSpan {f : Nat} (hf : f ≤ 20000) (ht : Machine.tanSpan p f = some t) :
    t.Encloses p (Real.tan (Real.pi * f / 48000)) := by
  have hpos : 0 ≤ Real.pi * f / 48000 := by have := Real.pi_pos; positivity
  have hx : (((Machine.piSpan p).scale f).divNat Config.sampleRate).Encloses p (Real.pi * f / 48000) := by
    have h := ((piSpan p).scale f).divNat (n := Config.sampleRate) (by decide)
    rwa [Int.cast_natCast, mul_comm (f : ℝ), show ((Config.sampleRate : ℕ) : ℝ) = 48000 by norm_num] at h
  rw [Real.tan_eq_sin_div_cos]
  exact (sinSpan hx hpos (edge_angle hf)).div (cosSpan hx hpos (edge_angle hf)) ht

end Span.Encloses

end Sys2Proof.Machine
end

section
/-! The band filter in interval arithmetic: the coefficients of R23, the filter equation, and the energy sum (R23, R32; log 12).
The bounds enclose the exact energy at every precision, and so fix its level where they round alike (R33). -/

namespace Sys2Proof.Machine

/-! ### The coefficients -/

/-- A filter's spans enclose the coefficients of R23. -/
structure Filter.Encloses (p : Nat) (f : Filter) (c : ExactFilter) : Prop where
  g  : f.g.Encloses p c.g
  a0 : f.a0.Encloses p c.a0
  a1 : f.a1.Encloses p c.a1
  a2 : f.a2.Encloses p c.a2
  a3 : f.a3.Encloses p c.a3
  a4 : f.a4.Encloses p c.a4

variable {p : Nat}

/-- A span encloses the number it encloses under another name. -/
theorem Span.Encloses.of_eq {x : Span} {r s : ℝ} (h : x.Encloses p r) (e : r = s) : x.Encloses p s := e ▸ h

theorem encloses_prewarp {f : Nat} {t : Span} (ht : t.Encloses p (Real.tan (Real.pi * f / 48000))) :
    (t.scale (2 * Config.sampleRate)).Encloses p (prewarp f) :=
  (ht.scale _).of_eq (by unfold prewarp; norm_num)

/-- The coefficients from the pre-warped edges (R23). -/
theorem encloses_filterFrom {band : Band} {tl tu : Span} (hl : tl.Encloses p (Real.tan (Real.pi * band.lower / 48000)))
    (hu : tu.Encloses p (Real.tan (Real.pi * band.upper / 48000))) :
    (filterFrom p tl tu).Encloses p (exactFilter band) := by
  have hwl := encloses_prewarp hl
  have hwu := encloses_prewarp hu
  have hb := hwu.sub hwl
  have hw02 := hwl.mul hwu
  have hb2 := hb.mul hb
  have hroot := (encloses_sqrtTwo p).mul hb
  have hc4 := Span.Encloses.ofInt p ((2 * (Config.sampleRate : ℤ)) ^ 4)
  have hc3 := hroot.scale ((2 * (Config.sampleRate : ℤ)) ^ 3)
  have hc2 := ((hw02.scale 2).add hb2).scale ((2 * (Config.sampleRate : ℤ)) ^ 2)
  have hc1 := (hroot.mul hw02).scale (2 * (Config.sampleRate : ℤ))
  have hc0 := hw02.mul hw02
  have hg := hb2.scale ((2 * (Config.sampleRate : ℤ)) ^ 2)
  have ha0 := (((hc4.add hc3).add hc2).add hc1).add hc0
  have ha1 := (((hc4.scale (-4)).sub (hc3.scale 2)).add (hc1.scale 2)).add (hc0.scale 4)
  have ha2 := ((hc4.scale 6).sub (hc2.scale 2)).add (hc0.scale 6)
  have ha3 := (((hc4.scale (-4)).add (hc3.scale 2)).sub (hc1.scale 2)).add (hc0.scale 4)
  have ha4 := (((hc4.sub hc3).add hc2).sub hc1).add hc0
  have hk : ((2 * (Config.sampleRate : ℤ) : ℤ) : ℝ) = 2 * 48000 := by norm_num
  refine ⟨hg.of_eq ?_, ha0.of_eq ?_, ha1.of_eq ?_, ha2.of_eq ?_, ha3.of_eq ?_, ha4.of_eq ?_⟩ <;>
    simp only [exactFilter, Int.cast_pow, hk] <;> push_cast <;> ring

theorem encloses_filterOf {band : Band} {f : Filter} (hband : band.lower ≤ 20000 ∧ band.upper ≤ 20000)
    (hf : filterOf p band = some f) : f.Encloses p (exactFilter band) := by
  unfold filterOf at hf
  split at hf
  case h_1 tl tu hl hu =>
    obtain rfl := Option.some.inj hf
    exact encloses_filterFrom (.tanSpan hband.1 hl) (.tanSpan hband.2 hu)
  · cases hf

/-! ### The filter equation -/

/-- A run's spans enclose an exact run: equal inputs, enclosed outputs, an enclosed energy sum. -/
structure FilterRun.Encloses (p : Nat) (r : FilterRun) (e : ExactRun) : Prop where
  x1 : (r.state.x1 : ℝ) = e.x1
  x2 : (r.state.x2 : ℝ) = e.x2
  x3 : (r.state.x3 : ℝ) = e.x3
  x4 : (r.state.x4 : ℝ) = e.x4
  y1 : r.state.y1.Encloses p e.y1
  y2 : r.state.y2.Encloses p e.y2
  y3 : r.state.y3.Encloses p e.y3
  y4 : r.state.y4.Encloses p e.y4
  energy : r.energy.Encloses p e.energy

theorem FilterRun.encloses_zero (p : Nat) : FilterRun.Encloses p ⟨FilterState.zero, ⟨0, 0⟩⟩ ExactRun.zero := by
  have h := Span.Encloses.zero p
  exact ⟨Int.cast_zero, Int.cast_zero, Int.cast_zero, Int.cast_zero, h, h, h, h, h⟩

theorem FilterRun.Encloses.sample {f : Filter} {c : ExactFilter} {r r' : FilterRun} {e : ExactRun} (hf : f.Encloses p c)
    (hr : r.Encloses p e) {x : Sample} (h : r.sample p f x.toInt = some r') : r'.Encloses p (e.sample c x) := by
  unfold FilterRun.sample at h
  simp only at h
  split at h
  case h_1 => cases h
  case h_2 y hy =>
    obtain rfl := Option.some.inj h
    have hfed := hf.g.scale (x.toInt - 2 * r.state.x2 + r.state.x4)
    have hback := (((hf.a1.mul hr.y1).add (hf.a2.mul hr.y2)).add (hf.a3.mul hr.y3)).add (hf.a4.mul hr.y4)
    have hout := ((hfed.sub hback).div hf.a0 hy).of_eq (s := (e.sample c x).y1) (by
      push_cast
      rw [hr.x2, hr.x4]
      unfold ExactRun.sample
      ring)
    exact ⟨rfl, hr.x1, hr.x2, hr.x3, hout, hr.y1, hr.y2, hr.y3, hr.energy.add hout.square⟩

theorem FilterRun.Encloses.samples {f : Filter} {c : ExactFilter} (hf : f.Encloses p c) (xs : List Sample) {r r' : FilterRun}
    {e : ExactRun} (hr : r.Encloses p e) (h : FilterRun.samples p f (xs.map BitVec.toInt) r = some r') :
    r'.Encloses p (xs.foldl (ExactRun.sample c) e) := by
  induction xs generalizing r e with
  | nil =>
    obtain rfl := Option.some.inj h
    exact hr
  | cons x xs ih =>
    rw [List.map_cons, FilterRun.samples] at h
    split at h
    · cases h
    case h_2 r1 h1 => exact ih (hr.sample hf h1) h

/-! ### The energy sum -/

/-- A filter kept from an earlier block is that of its band. -/
def KeptOk (p : Nat) (kept : Option (Band × Filter)) : Prop := ∀ b f, kept = some (b, f) → f.Encloses p (exactFilter b)

theorem KeptOk.filterKept {kept : Option (Band × Filter)} (h : KeptOk p kept) {band : Band} {f : Filter}
    (hband : band.lower ≤ 20000 ∧ band.upper ≤ 20000) (hf : filterKept p kept band = some f) :
    f.Encloses p (exactFilter band) := by
  unfold Machine.filterKept at hf
  split at hf
  · exact encloses_filterOf hband hf
  case h_2 b g =>
    split at hf
    case isTrue heq =>
      obtain rfl := Option.some.inj hf
      exact heq ▸ h b g rfl
    case isFalse => exact encloses_filterOf hband hf

theorem FilterRun.Encloses.blocks {h : BandHistory} (hrange : BandsInRange h) {kept : Option (Band × Filter)} (hkept : KeptOk p kept)
    {r r' : FilterRun} {e : ExactRun} (hr : r.Encloses p e) (hblocks : FilterRun.blocks p kept h r = some r') :
    r'.Encloses p (h.foldl ExactRun.block e) := by
  induction h generalizing kept r e with
  | nil =>
    obtain rfl := Option.some.inj hblocks
    exact hr
  | cons b rest ih =>
    obtain ⟨band, xs⟩ := b
    obtain ⟨⟨-, hlt, hle⟩, hrest⟩ := List.forall_mem_cons.mp hrange
    rw [FilterRun.blocks] at hblocks
    split at hblocks
    · cases hblocks
    case h_2 f hf =>
      have hfilter := hkept.filterKept (band := band) ⟨(Nat.le_of_lt hlt).trans hle, hle⟩ hf
      split at hblocks
      · cases hblocks
      case h_2 r1 h1 =>
        refine ih hrest (fun b g hg => ?_) (hr.samples hfilter xs h1) hblocks
        obtain ⟨rfl, rfl⟩ := Prod.mk.inj (Option.some.inj hg)
        exact hfilter

theorem encloses_bandEnergy {h : BandHistory} {e : Span} (hrange : BandsInRange h) (he : bandEnergy p h = some e) :
    e.Encloses p (exactEnergy h) := by
  unfold bandEnergy at he
  split at he
  · cases he
  case h_2 r hr =>
    obtain rfl := Option.some.inj he
    exact (FilterRun.Encloses.blocks hrange (kept := none) nofun (FilterRun.encloses_zero p) hr).energy

/-- Settles O28: every operation on spans encloses the operation on reals, through the filter equation of every sample. -/
theorem bandEnergyIsEnclosed : Obligations.BandEnergyIsEnclosed := by
  intro p h e hrange he
  obtain ⟨hlow, hhigh⟩ := encloses_bandEnergy hrange he
  exact ⟨by rwa [div_le_iff₀ (by positivity)], by rwa [le_div_iff₀ (by positivity)]⟩

/-! ### The level of a band -/

theorem exactLevel_le (x : ℝ) : exactLevel x ≤ 2047 := by
  rw [exactLevel_eq]
  exact Nat.min_le_left _ _

theorem exactLevel_mono {x y : ℝ} (hx : 0 ≤ x) (hxy : x ≤ y) : exactLevel x ≤ exactLevel y := by
  rcases hx.eq_or_lt with rfl | hpos
  · rw [exactLevel_zero]
    exact Nat.zero_le _
  · rw [exactLevel_eq, exactLevel_eq]
    refine min_le_min le_rfl (Int.toNat_le_toNat (Int.floor_le_floor ?_))
    have := Real.logb_le_logb_of_le (b := 10) (by norm_num) hpos hxy
    linarith

theorem levelOf_le (num : Nat) {den : Nat} (hden : 0 < den) : levelOf num den ≤ 2047 := by
  rw [levelOf_eq num hden]
  exact exactLevel_le _

theorem exactEnergy_nonneg (h : BandHistory) : 0 ≤ exactEnergy h := by
  have hsamples (c : ExactFilter) (xs : List Sample) (r : ExactRun) (hr : 0 ≤ r.energy) :
      0 ≤ (xs.foldl (ExactRun.sample c) r).energy := by
    induction xs generalizing r with
    | nil => exact hr
    | cons x xs ih => exact ih _ (add_nonneg hr (sq_nonneg _))
  have hblocks (r : ExactRun) (hr : 0 ≤ r.energy) : 0 ≤ (h.foldl ExactRun.block r).energy := by
    induction h generalizing r with
    | nil => exact hr
    | cons b rest ih => exact ih _ (hsamples _ _ _ hr)
  exact hblocks ExactRun.zero le_rfl

section
variable {counted : Nat} {h : BandHistory}

theorem levelBounds_of_energy {e : Span} (he : bandEnergy p h = some e) :
    levelBounds p counted h =
      some (levelOf e.lo.toNat (2 ^ p * (32 * counted)), levelOf e.hi.toNat (2 ^ p * (32 * counted))) := by
  rw [levelBounds, he]
  rfl

/-- The level of the exact mean square lies between the levels of the bounds (R33). -/
theorem exactLevel_between (hcounted : 0 < counted) (hrange : BandsInRange h) {b : Nat × Nat}
    (hb : levelBounds p counted h = some b) :
    b.1 ≤ exactLevel (exactEnergy h / (32 * counted)) ∧ exactLevel (exactEnergy h / (32 * counted)) ≤ b.2 := by
  obtain ⟨e, he, rfl⟩ := Option.map_eq_some_iff.mp hb
  obtain ⟨hlow, hhigh⟩ := encloses_bandEnergy hrange he
  have henergy := exactEnergy_nonneg h
  have hcounted' : (0 : ℝ) < counted := by exact_mod_cast hcounted
  have hden : 0 < 2 ^ p * (32 * counted) := by positivity
  have hmean : exactEnergy h / (32 * counted) = exactEnergy h * 2 ^ p / ((2 ^ p * (32 * counted) : ℕ) : ℝ) := by
    push_cast
    field_simp
  have hscaled : 0 ≤ exactEnergy h * 2 ^ p := by positivity
  have hlo : ((e.lo.toNat : ℕ) : ℝ) ≤ exactEnergy h * 2 ^ p := by
    rw [← Int.cast_natCast, Int.toNat_eq_max, Int.cast_max]
    exact max_le hlow (by simpa using hscaled)
  have hhi : exactEnergy h * 2 ^ p ≤ ((e.hi.toNat : ℕ) : ℝ) := by
    rw [← Int.cast_natCast, Int.toNat_eq_max, Int.cast_max]
    exact le_max_of_le_left hhigh
  simp only [levelOf_eq _ hden, hmean]
  exact ⟨exactLevel_mono (by positivity) (by gcongr), exactLevel_mono (by positivity) (by gcongr)⟩

theorem levelBounds_le (hcounted : 0 < counted) {b : Nat × Nat} (hb : levelBounds p counted h = some b) : b.2 ≤ 2047 := by
  obtain ⟨e, -, rfl⟩ := Option.map_eq_some_iff.mp hb
  exact levelOf_le _ (by positivity)

end

/-- Settles O29: bounds that round alike round as the exact mean square does (`exactLevel_between`), and the search stops at the
first such bounds (`refinedLevel_spec`). -/
theorem bandLevelIsExact : Obligations.BandLevelIsExact := by
  intro counted h
  refine ⟨rfl, ?_, fun p e he => levelBounds_of_energy he, fun n l hcounted hrange hn hlevel hsome => ?_⟩
  · unfold bandLevel
    split
    · exact Nat.zero_le _
    · obtain ⟨k, -, hk, -⟩ := refinedLevel_spec counted h refinements (precision h)
      rw [hk]
      cases hb : levelBounds (2 ^ k * precision h) counted h with
      | none => exact Nat.zero_le _
      | some b => exact levelBounds_le (by omega) hb
  · unfold bandLevel
    rw [if_neg (by omega)]
    obtain ⟨k, -, hk, hstop, hbefore⟩ := refinedLevel_spec counted h refinements (precision h)
    have hkn : k ≤ n := by
      by_contra hlt
      obtain ⟨b, hb, hne⟩ := hbefore n (by omega)
      rw [hlevel] at hb
      obtain rfl := Option.some.inj hb
      exact hne rfl
    have hagree : ∃ b, levelBounds (2 ^ k * precision h) counted h = some b ∧ b.1 = b.2 := by
      rcases hkn.lt_or_eq with hlt | rfl
      · obtain ⟨b, hb⟩ := Option.isSome_iff_exists.mp (hsome k hlt)
        exact ⟨b, hb, (hstop b hb).resolve_right (by unfold refinements; omega)⟩
      · exact ⟨_, hlevel, rfl⟩
    obtain ⟨b, hb, heq⟩ := hagree
    obtain ⟨hlow, hhigh⟩ := exactLevel_between hcounted hrange hb
    rw [hk, hb]
    exact Nat.le_antisymm (heq.ge.trans hlow) hhigh

end Sys2Proof.Machine
end

section
/-! Judgements: the verdict of a profile, the suspect list under a result, drift and streaks, and what a Finding lists (R58 to
R61, R75 to R85, R88, R95 to R103). -/

namespace Sys2Proof.Machine

/-! ### The verdict of a profile -/

section
variable {r : CycleRecord} {h : MouldHeader} {p : Profile} {x : Accumulator}

theorem judgeProfile_of_unmapped (hx : (r.accs.find? fun y => y.watchPoint == p.watchPoint) = some x) (hm : x.mapping = none) :
    judgeProfile r h p = skipResult p := by
  unfold judgeProfile
  rw [hx]
  simp only [hm]

theorem judgeProfile_of_mapped (hx : (r.accs.find? fun y => y.watchPoint == p.watchPoint) = some x) {m : Mapping}
    (hm : x.mapping = some m) : judgeProfile r h p = mappedResult r.silenced h p m x := by
  unfold judgeProfile
  rw [hx]
  simp only [hm]

theorem judgeProfile_watchPoint (r : CycleRecord) (h : MouldHeader) (p : Profile) :
    (judgeProfile r h p).watchPoint = p.watchPoint := by
  unfold judgeProfile
  split
  · rfl
  · split <;> rfl

theorem RingPart.ringDown_eq (y : RingPart) : y.ringDown = if y.state = .ended then some y.count else none := by
  unfold ringDown
  cases y.state <;> rfl

theorem maskedLevel_eq (place : Option BandProfile) (level : Nat) :
    maskedLevel place level = if place.isSome = true then level else 0 := by
  cases place <;> rfl

/-- The causes of a BLIND, as R76 lists them. -/
theorem blindCauses_ne_zero_iff (silenced : BitVec 8) (h : MouldHeader) (m : Mapping) (v : VibePart) :
    blindCauses silenced h m v ≠ 0#3 ↔ silenced.getLsbD m.pod.val = true ∨ v.counted < h.minVibe ∨ h.gapLimit < v.missing := by
  have hbne := blindCauses_ne_zero silenced h m v
  rw [← bne_iff_ne, show (0#3) = (0 : BlindSet) from rfl, hbne]
  simp only [Bool.or_eq_true, decide_eq_true_iff, or_assoc]

end

/-- Settles O30: the verdict by whether a blind cause holds, and each bit of a deviation set by its own comparison. -/
theorem verdictsByCausesAndDeviations : Obligations.VerdictsByCausesAndDeviations := by
  refine ⟨fun r m => ⟨List.length_map _, fun i p hp => ?_⟩, fun r h p x hx => ?_, fun p levels hits ringDown k => ?_⟩
  · rw [judgeAll, List.getElem?_map, hp]
    rfl
  · intro y
    refine ⟨judgeProfile_watchPoint r h p, fun hm => judgeProfile_of_unmapped hx hm, fun m hm => ?_⟩
    have hy : y = mappedResult r.silenced h p m x := judgeProfile_of_mapped hx hm
    refine ⟨hy, ?_⟩
    clear_value y
    subst hy
    intro silent few gaps dev level
    have hlevel (place : Option BandProfile) (sel : BandSet → Band) :
        maskedLevel place (bandLevel x.vibe.counted (x.vibe.history sel)) = level place sel := maskedLevel_eq _ _
    have hcauses := blindCauses_ne_zero_iff r.silenced h m x.vibe
    refine ⟨?_, ?_, ?_, rfl, rfl, rfl, RingPart.ringDown_eq _, ?_, fun hblind => ?_, fun hnot => ?_⟩
    · rw [show (mappedResult r.silenced h p m x).blind = blindCauses r.silenced h m x.vibe from rfl, blindCauses_silent]
    · rw [show (mappedResult r.silenced h p m x).blind = blindCauses r.silenced h m x.vibe from rfl, blindCauses_few,
        decide_eq_true_iff]
    · rw [show (mappedResult r.silenced h p m x).blind = blindCauses r.silenced h m x.vibe from rfl, blindCauses_gaps,
        decide_eq_true_iff]
    · simp only [← hlevel]
      rfl
    · have hne := hcauses.mpr hblind
      obtain ⟨hverdict, hcut⟩ := mappedResult_of_blindCauses_ne_zero (p := p) hne
      refine ⟨hverdict, ?_, hcut⟩
      simp [mappedResult, hne]
    · have heq : blindCauses r.silenced h m x.vibe = 0#3 := by
        by_contra hne
        exact hnot (hcauses.mp hne)
      exact mappedResult_of_blindCauses_eq_zero (p := p) heq
  · have hbit {dev : DevSet} {i : Nat} {place : Option BandProfile} {level : Nat}
        (h : dev.getLsbD i = bandDeviates place level) := (Bool.eq_iff_iff.mp h).trans (bandDeviates_iff place level)
    match k with
    | 0 => exact hbit (deviationsOf_band1 p levels hits ringDown)
    | 1 => exact hbit (deviationsOf_band2 p levels hits ringDown)
    | 2 => exact hbit (deviationsOf_band3 p levels hits ringDown)
    | 3 => exact hbit (deviationsOf_band4 p levels hits ringDown)

/-! ### The suspect list under one result -/

section
variable {u : ListRun} {h : MouldHeader} {slot : Fin 16} {cycle : Half} {x : SummaryEntry} {e : SuspectEntry}

/-- In a list with no two entries of one name, the entry found is the only one of its name (R92). -/
theorem eq_of_entryFor {list : List SuspectEntry} {wp : Fin 24} (hapart : list.Pairwise SuspectEntry.Apart)
    (he : entryFor list slot wp = some e) {d : SuspectEntry} (hd : d ∈ list) (hs : d.slot = slot) (hw : d.watchPoint = wp) :
    d = e := by
  obtain ⟨hmem, hes, hew⟩ := entryFor_eq_some he
  by_contra hne
  have : Std.Symm SuspectEntry.Apart := ⟨fun a b h hab => h ⟨hab.1.symm, hab.2.symm⟩⟩
  exact hapart.forall hd hmem hne ⟨hs.trans hes.symm, hw.trans hew.symm⟩

theorem updateEntry_eq (list : List SuspectEntry) (slot : Fin 16) (wp : Fin 24) (f : SuspectEntry → SuspectEntry) :
    updateEntry list slot wp f = list.map fun d => if d.slot = slot ∧ d.watchPoint = wp then f d else d := by
  simp only [updateEntry, SuspectEntry.names_iff]

theorem removeEntry_eq (list : List SuspectEntry) (slot : Fin 16) (wp : Fin 24) :
    removeEntry list slot wp = list.filter fun d => ¬(d.slot = slot ∧ d.watchPoint = wp) := by
  unfold removeEntry
  refine List.filter_congr fun d _ => ?_
  rw [Bool.eq_iff_iff, Bool.not_eq_true', ← Bool.not_eq_true, SuspectEntry.names_iff, decide_eq_true_iff]

theorem take_of_deviate (hx : x.verdict = .deviate) :
    u.take h slot cycle x = u.deviate h.k h.n slot cycle x.watchPoint x.deviations := by
  unfold ListRun.take
  rw [hx]

theorem take_of_clean (hx : x.verdict = .clean) : u.take h slot cycle x = u.clean h.n slot x.watchPoint := by
  unfold ListRun.take
  rw [hx]

theorem take_of_not_compared (hx : x.verdict = .blind ∨ x.verdict = .skip) : u.take h slot cycle x = u := by
  unfold ListRun.take
  rcases hx with hx | hx <;> rw [hx]

theorem newEntry_eq (k : Nat) (slot : Fin 16) (cycle : Half) (wp : Fin 24) (dev : DevSet) :
    newEntry k slot cycle wp dev =
      { slot := slot, watchPoint := wp, state := if k = 1 then .confirmed else .suspect, firstCycle := cycle,
        window := [.deviate], lastDev := dev, confirmedCycle := if k = 1 then some cycle else none } := by
  unfold newEntry confirmAt
  have hcount : dCount [Judged.deviate] = k ↔ k = 1 := eq_comm
  simp only [hcount]
  split <;> rfl

theorem noteConfirmed_newEntry (k : Nat) (slot : Fin 16) (cycle : Half) (wp : Fin 24) (dev : DevSet)
    (confirmed : List (Fin 24)) :
    noteConfirmed (newEntry k slot cycle wp dev) wp confirmed = if k = 1 then confirmed ++ [wp] else confirmed := by
  rw [newEntry_eq]
  unfold noteConfirmed
  by_cases hk : k = 1
  · simp [hk]
  · simp [hk]

theorem take_deviate_full (he : entryFor u.list slot x.watchPoint = none) (hx : x.verdict = .deviate)
    (hfull : 32 ≤ u.list.length) : u.take h slot cycle x = { u with full := u.full ++ [x.watchPoint] } := by
  rw [take_of_deviate hx]
  unfold ListRun.deviate
  rw [he]
  exact if_neg (Nat.not_lt.mpr hfull)

theorem take_deviate_new (he : entryFor u.list slot x.watchPoint = none) (hx : x.verdict = .deviate)
    (hroom : u.list.length < 32) :
    u.take h slot cycle x =
      { u with
        list := u.list ++ [newEntry h.k slot cycle x.watchPoint x.deviations]
        added := u.added ++ [x.watchPoint]
        confirmed := if h.k = 1 then u.confirmed ++ [x.watchPoint] else u.confirmed } := by
  rw [take_of_deviate hx, ← noteConfirmed_newEntry h.k slot cycle x.watchPoint x.deviations]
  unfold ListRun.deviate
  rw [he]
  exact if_pos hroom

theorem take_deviate_confirmed (he : entryFor u.list slot x.watchPoint = some e) (hx : x.verdict = .deviate)
    (hs : e.state = .confirmed) :
    u.take h slot cycle x =
      { u with list := updateEntry u.list slot x.watchPoint fun d => { d with lastDev := x.deviations } } := by
  rw [take_of_deviate hx]
  unfold ListRun.deviate
  rw [he]
  simp only [hs]

theorem take_deviate_suspect (he : entryFor u.list slot x.watchPoint = some e) (hx : x.verdict = .deviate)
    (hs : e.state = .suspect) :
    u.take h slot cycle x =
      { u with
        list := updateEntry u.list slot x.watchPoint fun _ => deviateEntry h.k h.n cycle x.deviations e
        confirmed := noteConfirmed (deviateEntry h.k h.n cycle x.deviations e) x.watchPoint u.confirmed } := by
  rw [take_of_deviate hx]
  unfold ListRun.deviate
  rw [he]
  simp only [hs]

theorem take_clean_absent (he : entryFor u.list slot x.watchPoint = none) (hx : x.verdict = .clean) :
    u.take h slot cycle x = u := by
  rw [take_of_clean hx]
  unfold ListRun.clean
  rw [he]

theorem take_clean_confirmed (he : entryFor u.list slot x.watchPoint = some e) (hx : x.verdict = .clean)
    (hs : e.state = .confirmed) : u.take h slot cycle x = u := by
  rw [take_of_clean hx]
  unfold ListRun.clean
  rw [he]
  simp only [hs]

theorem take_clean_suspect (he : entryFor u.list slot x.watchPoint = some e) (hx : x.verdict = .clean)
    (hs : e.state = .suspect) :
    u.take h slot cycle x =
      if retires h.n (cleanEntry h.n e).window = true then { u with list := removeEntry u.list slot x.watchPoint }
      else { u with list := updateEntry u.list slot x.watchPoint fun _ => cleanEntry h.n e } := by
  rw [take_of_clean hx]
  unfold ListRun.clean
  rw [he]
  simp only [hs]

theorem retires_iff (n : Nat) (window : List Judged) : retires n window = true ↔ window.length = n ∧ dCount window = 0 := by
  simp [retires]

end

/-- Settles O33: one result by the entry it finds and its verdict; the standing by the entry the list holds at the end. -/
theorem resultsReachTheSuspectList : Obligations.ResultsReachTheSuspectList := by
  refine ⟨fun list h slot cycle xs x => ⟨rfl, listRun_append list h slot cycle xs x⟩, fun u slot wp => ?_,
    fun u h slot cycle x => ?_⟩
  · intro held
    have hheld : entryFor u.list slot wp = held := rfl
    refine ⟨hheld, fun e he hs => ?_, fun e he hs => ?_, fun hn hf => ?_, fun hn hf => ?_⟩
    · unfold standingOf
      rw [hheld, he]
      simp only [hs]
    · unfold standingOf
      rw [hheld, he]
      simp only [hs]
    · unfold standingOf
      rw [hheld, hn]
      exact if_pos (List.contains_iff_mem.mpr hf)
    · unfold standingOf
      rw [hheld, hn]
      exact if_neg fun hc => hf (List.contains_iff_mem.mp hc)
  · intro t wp put push count
    refine ⟨take_of_not_compared, take_clean_absent, take_deviate_full, fun he hx hroom => ?_, fun e he hapart => ?_⟩
    · intro e'
      have := take_deviate_new (h := h) (cycle := cycle) he hx hroom
      rwa [newEntry_eq] at this
    · have hput (f : SuspectEntry → SuspectEntry) : updateEntry u.list slot wp f = put (f e) := by
        rw [updateEntry_eq]
        refine List.map_congr_left fun d hd => ?_
        split
        case isTrue hname => rw [eq_of_entryFor hapart he hd hname.1 hname.2]
        · rfl
      refine ⟨fun hs hx => take_clean_confirmed he hx hs, fun hs hx => ?_, fun hs hx => ?_, fun hs hx => ?_⟩
      · rw [← hput fun d => { d with lastDev := x.deviations }]
        exact take_deviate_confirmed he hx hs
      · intro w
        have ht : t = _ := take_deviate_suspect he hx hs
        rw [hput fun _ => deviateEntry h.k h.n cycle x.deviations e] at ht
        refine ⟨fun hk => ?_, fun hk => ?_⟩
        · have hentry : deviateEntry h.k h.n cycle x.deviations e =
              { e with state := .confirmed, window := w, lastDev := x.deviations, confirmedCycle := some cycle } := if_pos hk
          rw [ht, hentry]
          rfl
        · have hentry : deviateEntry h.k h.n cycle x.deviations e = { e with window := w, lastDev := x.deviations } := if_neg hk
          rw [ht, hentry, noteConfirmed, if_neg (by rw [hs]; exact nofun)]
      · intro w
        have ht : t = _ := take_clean_suspect he hx hs
        rw [hput fun _ => cleanEntry h.n e, removeEntry_eq] at ht
        have hret : retires h.n (cleanEntry h.n e).window = true ↔ w.length = h.n ∧ count w = 0 := retires_iff _ _
        exact ⟨fun hr => ht.trans (if_pos (hret.mpr hr)), fun hr => ht.trans (if_neg (mt hret.mp hr))⟩

/-! ### Drift and streaks -/

section
variable {list : List SuspectEntry} {h : MouldHeader} {slot : Fin 16} {xs : List SummaryEntry} {p : Profile} {x : SummaryEntry}

theorem profileAfter_of_result (hx : resultFor xs p = some x) :
    profileAfter list h slot xs p =
      { p with
        bands := if drifts list h slot x then Four.zipWith (driftBand h) p.bands x.levels else p.bands
        blindStreak := streakAfter x.verdict p.blindStreak } := by
  unfold profileAfter
  rw [hx]

/-- The clamp acts on some masked band of a profile (R61). -/
theorem driftLimited_iff (hx : resultFor xs p = some x) :
    driftLimited list h slot xs p = true ↔ drifts list h slot x = true ∧
      (clampActs h p.bands.b1 x.levels.b1 = true ∨ clampActs h p.bands.b2 x.levels.b2 = true ∨
        clampActs h p.bands.b3 x.levels.b3 = true ∨ clampActs h p.bands.b4 x.levels.b4 = true) := by
  unfold driftLimited
  rw [hx]
  simp only [Bool.and_eq_true, Bool.or_eq_true, or_assoc]

/-- A drift step's clamp, case by case (R61). -/
theorem driftBand_eq {place : Option BandProfile} (hp : BandOk h.driftLimit place) (level : Nat) :
    driftBand h place level = place.map fun b =>
      { b with
        current :=
          (if driftTarget h.driftShift b level < driftLow h.driftLimit b then driftLow h.driftLimit b
           else if driftHigh h.driftLimit b < driftTarget h.driftShift b level then driftHigh h.driftLimit b
           else driftTarget h.driftShift b level).toNat } := by
  cases place with
  | none => rfl
  | some b =>
    obtain ⟨hloaded, -⟩ := hp
    have hlow : driftLow h.driftLimit b ≤ driftHigh h.driftLimit b := by
      unfold driftLow driftHigh
      omega
    simp only [driftBand, Option.map_some]
    congr 3
    generalize driftLow h.driftLimit b = low at hlow ⊢
    generalize driftHigh h.driftLimit b = high at hlow ⊢
    generalize driftTarget h.driftShift b level = target
    split
    · omega
    · split <;> omega

end

/-- Settles O34: drift by `drifts_iff` and the clamp's cases, the streak by the verdict. -/
theorem driftAndStreakFollowTheVerdict : Obligations.DriftAndStreakFollowTheVerdict := by
  intro list h slot xs p x hx hp q drifts target low high moved acts
  have hq : q = _ := profileAfter_of_result (list := list) (h := h) (slot := slot) hx
  have hdrifts : Machine.drifts list h slot x = true ↔ drifts := drifts_iff list h slot x
  have hacts (place : Option BandProfile) (level : Nat) : clampActs h place level = true ↔ acts place level := by
    rw [clampActs_iff]
    simp only [driftTarget, driftLow, driftHigh, acts, target, low, high]
    push_cast
    rfl
  have hmoved {place : Option BandProfile} (hb : BandOk h.driftLimit place) (level : Nat) :
      driftBand h place level = moved place level := by
    rw [driftBand_eq hb]
    simp only [driftTarget, driftLow, driftHigh, moved, target, low, high]
    push_cast
    rfl
  obtain ⟨h1, h2, h3, h4, -⟩ := hp
  clear_value q
  subst hq
  refine ⟨rfl, fun hd => ?_, fun hd => ?_, ?_, fun hv => ?_, fun hv => ?_, fun hv => ?_⟩
  · simp only [if_pos (hdrifts.mpr hd), Four.zipWith, hmoved h1, hmoved h2, hmoved h3, hmoved h4]
  · simp only [if_neg (mt hdrifts.mp hd)]
  · rw [driftLimited_iff hx, hdrifts, hacts, hacts, hacts, hacts]
  · simp only [hv, streakAfter]
  · rcases hv with hv | hv <;> simp only [hv, streakAfter]
  · simp only [hv, streakAfter]

/-! ### The Finding -/

theorem isReported_eq (x : SummaryEntry) : isReported x = decide (x.verdict = .deviate ∨ x.verdict = .blind) := by
  rw [Bool.eq_iff_iff, isReported, Bool.or_eq_true, beq_iff_eq, beq_iff_eq, decide_eq_true_iff]

/-- Settles O35: report every cycle lists every result, otherwise those reported, if there is one. -/
theorem findingListsWhatTheSetupAsks : Obligations.FindingListsWhatTheSetupAsks := by
  intro xs reported result
  have hreported : isReported = reported := funext isReported_eq
  have hfalse : findingResults false xs =
      if xs.any reported then some ((xs.filter reported).map result) else none := by
    rw [← hreported]
    rfl
  refine ⟨rfl, fun h => hfalse.trans (if_pos (List.any_eq_true.mpr h)), fun h => hfalse.trans (if_neg fun hany => ?_)⟩
  obtain ⟨x, hx, hr⟩ := List.any_eq_true.mp hany
  exact absurd hr (by rw [h x hx]; exact nofun)

end Sys2Proof.Machine
end

section
/-! The completion of a judgement, whole (R14, R59, R61, R72, R81 to R88, R90, R101, R190). -/

namespace Sys2Proof.Machine

namespace State

variable {s : State}

/-! ### The Finding -/

/-- There is room for a Finding or a Notice in the own queue (R157). -/
def RoomForFinding (s : State) : Prop := s.paths.own.length < 12 ∧ s.nonReplies < 10

/-- The results the Finding of a completion lists, if one is called for (R85). -/
def askedFor (s : State) (xs : List SummaryEntry) : Option (List FindingResult) :=
  findingResults ((s.tables.setup.map Setup.reportEvery).getD false) xs

/-- A frame placed in a state that differs from another outside the links takes the same place (R157, R158). -/
theorem placed_congr {w : State} (hpaths : w.paths = s.paths) (hport : w.portD = s.portD) (hstraps : w.straps = s.straps)
    (f : OwnFrame) : w.placed f = { w with paths := (s.placed f).paths, portD := (s.placed f).portD } := by
  have hstation : w.station = s.station := by rw [station, hstraps]; rfl
  unfold placed
  rw [hpaths, hport, hstation]
  split
  · rfl
  · simp only [← hport]

/-- The Finding of a completion: placed where there is room, lost with QUEUE OVERRUN where there is none (R85, R87). -/
theorem offerFinding_spec {w : State} (h : s.NoIdleWaitD) (hpaths : w.paths = s.paths) (hport : w.portD = s.portD)
    (hstraps : w.straps = s.straps) (htables : w.tables = s.tables) (x : Summary) :
    ∃ paths portD lost, w.offerFinding x = ({ w with paths := paths, portD := portD } : State).raiseIf lost .queueOverrun ∧
      (∀ rs, s.askedFor x.entries = some rs → s.RoomForFinding →
        paths = (s.placed (.finding ⟨x.cycle, x.slot, x.serial, rs⟩)).paths ∧
        portD = (s.placed (.finding ⟨x.cycle, x.slot, x.serial, rs⟩)).portD) ∧
      (s.askedFor x.entries = none ∨ ¬s.RoomForFinding → paths = s.paths ∧ portD = s.portD) ∧
      (lost = true ↔ (s.askedFor x.entries).isSome = true ∧ ¬s.RoomForFinding) := by
  have hw : w.NoIdleWaitD := by
    unfold NoIdleWaitD
    rw [hpaths, hport]
    exact h
  have hsame : w = { w with paths := s.paths, portD := s.portD } := by rw [← hpaths, ← hport]
  have hasked : w.askedFor x.entries = s.askedFor x.entries := by rw [askedFor, htables]; rfl
  have hroom : w.RoomForFinding ↔ s.RoomForFinding := by rw [RoomForFinding, nonReplies, hpaths]; rfl
  have hoffer : w.offerFinding x = match w.askedFor x.entries with
      | some results => w.offerNonReply (.finding ⟨x.cycle, x.slot, x.serial, results⟩)
      | none => w := rfl
  rw [hoffer, hasked]
  cases hres : s.askedFor x.entries with
  | none => exact ⟨s.paths, s.portD, false, hsame, nofun, fun _ => ⟨rfl, rfl⟩, by simp⟩
  | some rs =>
    simp only
    rw [offerNonReply_eq hw]
    by_cases hr : s.RoomForFinding
    · refine ⟨(s.placed (.finding ⟨x.cycle, x.slot, x.serial, rs⟩)).paths, (s.placed (.finding ⟨x.cycle, x.slot, x.serial, rs⟩)).portD,
        false, (if_pos (hroom.mpr hr)).trans (placed_congr hpaths hport hstraps _), fun rs' h' _ => ?_,
        fun hn => absurd hn (by simp [hr]), by simp [hr]⟩
      obtain rfl := Option.some.inj h'
      exact ⟨rfl, rfl⟩
    · refine ⟨s.paths, s.portD, true, (if_neg (mt hroom.mp hr)).trans ?_, fun _ _ hr' => absurd hr' hr, fun _ => ⟨rfl, rfl⟩,
        by simp [hr]⟩
      rw [← hsame]
      rfl

/-! ### The trace trigger -/

/-- The trigger in RUNNING (R90, R190). -/
theorem applyTrigger_running {ch : Nat} {ring : List Copy} {e : ChannelEntry} (htrace : s.trace = .running ch ring)
    (hch : s.tables.channels[ch]? = some e) (u : ListRun) (xs : List SummaryEntry) :
    (s.applyTrigger u xs).trace =
      match (s.tables.setup.map Setup.trigger).getD .manual with
      | .manual => s.trace
      | .onDeviate =>
        if (∃ x ∈ xs, x.watchPoint = e.watchPoint ∧ x.verdict = .deviate) then .frozen ch ring else s.trace
      | .onConfirm => if e.watchPoint ∈ u.confirmed then .frozen ch ring else s.trace := by
  have hpoint : tracedPoint s.trace s.tables.channels = some e.watchPoint := by
    rw [htrace, tracedPoint, hch]
    rfl
  have hdeviated : (xs.any fun x => x.watchPoint == e.watchPoint && x.verdict == .deviate) = true ↔
      ∃ x ∈ xs, x.watchPoint = e.watchPoint ∧ x.verdict = .deviate := by
    simp only [List.any_eq_true, Bool.and_eq_true, beq_iff_eq]
  have hconfirmed : u.confirmed.contains e.watchPoint = true ↔ e.watchPoint ∈ u.confirmed := List.contains_iff_mem
  unfold applyTrigger
  rw [hpoint]
  simp only [setTrace_trace]
  rw [htrace]
  cases (s.tables.setup.map Setup.trigger).getD .manual with
  | manual => rfl
  | onDeviate => exact if_congr hdeviated rfl rfl
  | onConfirm => exact if_congr hconfirmed rfl rfl

theorem applyTrigger_not_running (h : ∀ ch ring, s.trace ≠ .running ch ring) (u : ListRun) (xs : List SummaryEntry) :
    (s.applyTrigger u xs).trace = s.trace := by
  have hpoint : tracedPoint s.trace s.tables.channels = none := by
    unfold tracedPoint
    cases ht : s.trace with
    | running ch ring => exact absurd ht (h ch ring)
    | frozen ch ring => rfl
    | off => rfl
  unfold applyTrigger
  rw [hpoint]

/-! ### The conditions -/

theorem raiseIf_eq (s : State) (b : Bool) (c : Condition) : s.raiseIf b c = { s with cond := (s.raiseIf b c).cond } := by
  cases b <;> rfl

theorem raiseIf_enables (s : State) (b : Bool) (c : Condition) : (s.raiseIf b c).cond.enables = s.cond.enables := by
  cases b <;> rfl

theorem raiseJudged_eq (s : State) (u : ListRun) (limited lost : Bool) :
    s.raiseJudged u limited lost = { s with cond := (s.raiseJudged u limited lost).cond } := by
  unfold raiseJudged
  rw [raiseIf_eq _ lost, raiseIf_eq _ limited, raiseIf_eq _ _ .listFull, raiseIf_eq _ _ .crack, raiseIf_eq s]

/-- The conditions of a completion, its Finding's among them, change the conditions alone (R84, R87). -/
theorem raiseJudged_raiseIf_eq (s : State) (u : ListRun) (limited lost full : Bool) :
    (s.raiseIf full .queueOverrun).raiseJudged u limited lost =
      { s with cond := ((s.raiseIf full .queueOverrun).raiseJudged u limited lost).cond } := by
  rw [raiseJudged_eq, raiseIf_eq s]

theorem raiseJudged_enables (s : State) (u : ListRun) (limited lost : Bool) :
    (s.raiseJudged u limited lost).cond.enables = s.cond.enables := by
  simp only [raiseJudged, raiseIf_enables]

theorem isIn_raiseJudged (s : State) (u : ListRun) (limited lost : Bool) (c : Condition) :
    c.isIn (s.raiseJudged u limited lost).cond.flags = true ↔
      c.isIn s.cond.flags = true ∨ (c = .suspect ∧ u.added ≠ []) ∨ (c = .crack ∧ u.confirmed ≠ []) ∨
      (c = .listFull ∧ u.full ≠ []) ∨ (c = .driftLimit ∧ limited = true) ∨ (c = .watchLost ∧ lost = true) := by
  have hne {α : Type} (l : List α) : (!l.isEmpty) = true ↔ l ≠ [] := by cases l <;> simp
  simp only [raiseJudged, isIn_raiseIf, hne]
  tauto

/-! ### The end of a judgement -/

/-- The judged record goes FREE, and no record waits (R14). -/
theorem endJudgement_of_not_wait {i : RecId} (h : (s.tracker.get i.other).state ≠ .wait) :
    s.endJudgement i =
      { s with
        tracker := s.tracker.put i (CycleRecord.freed (s.tracker.get i).number)
        verdict := { s.verdict with judging := none } } :=
  if_neg (by
    show ((s.tracker.put i (CycleRecord.freed (s.tracker.get i).number)).get i.other).state ≠ .wait
    rw [Tracker.get_put_other]
    exact h)

/-- The judged record goes FREE, and the waiting one goes to judgement (R14, R72). -/
theorem endJudgement_of_wait {i : RecId} (h : (s.tracker.get i.other).state = .wait) :
    ∃ m, s.endJudgement i =
      { s with
        tracker := (s.tracker.put i (CycleRecord.freed (s.tracker.get i).number)).put i.other
          { s.tracker.get i.other with state := .judging, graceTimer := none }
        verdict := { s.verdict with judging := some { record := i.other, mould := m } } } ∧
      ∀ sl n, (s.tracker.get i.other).slot = some sl → s.mould sl = some n → m = n := by
  have hget : (s.tracker.put i (CycleRecord.freed (s.tracker.get i).number)).get i.other = s.tracker.get i.other :=
    Tracker.get_put_other _ _ _
  refine ⟨match (s.tracker.get i.other).slot with
    | some sl => (s.mould sl).getD noMould
    | none => noMould, ?_, fun sl n hsl hn => by simp only [hsl, hn, Option.getD_some]⟩
  refine (if_pos (by rw [← h, ← hget]; rfl)).trans ?_
  rw [← hget]
  rfl

/-- The end of a judgement, by whether a record waits (R14, R72). -/
theorem endJudgement_spec (s : State) (i : RecId) :
    ∃ tracker judging,
      s.endJudgement i = { s with tracker := tracker, verdict := { s.verdict with judging := judging } } ∧
      tracker.get i = CycleRecord.freed (s.tracker.get i).number ∧
      ((s.tracker.get i.other).state = .wait →
        tracker.get i.other = { s.tracker.get i.other with state := .judging, graceTimer := none } ∧
        judging.map Judging.record = some i.other ∧
        ∀ sl n, (s.tracker.get i.other).slot = some sl → s.mould sl = some n →
          judging = some { record := i.other, mould := n }) ∧
      ((s.tracker.get i.other).state ≠ .wait → tracker.get i.other = s.tracker.get i.other ∧ judging = none) ∧
      tracker.untracked = s.tracker.untracked ∧ tracker.unsync = s.tracker.unsync ∧
      tracker.lastClosed = s.tracker.lastClosed := by
  by_cases hwait : (s.tracker.get i.other).state = .wait
  · obtain ⟨m, heq, hmould⟩ := endJudgement_of_wait hwait
    refine ⟨_, _, heq, ?_, fun _ => ⟨Tracker.get_put _ _ _, rfl, fun sl n hsl hn => by rw [hmould sl n hsl hn]⟩,
      fun h => absurd hwait h, ?_⟩
    · rw [Tracker.get_put_of_other, Tracker.get_put]
    · cases i <;> exact ⟨rfl, rfl, rfl⟩
  · refine ⟨_, _, endJudgement_of_not_wait hwait, Tracker.get_put _ _ _, fun h => absurd h hwait,
      fun _ => ⟨Tracker.get_put_other _ _ _, rfl⟩, ?_⟩
    cases i <;> exact ⟨rfl, rfl, rfl⟩

end State

/-- The blind streak of a profile reaches its limit by a result (R82). -/
theorem watchLostBy_iff (limit : Option Nat) (xs : List SummaryEntry) (p : Profile) :
    watchLostBy limit xs p = true ↔
      ∃ l, limit = some l ∧ ∃ x, resultFor xs p = some x ∧
        x.verdict = .blind ∧ p.blindStreak < l ∧ min 15 (p.blindStreak + 1) = l := by
  have hreaches (l : Nat) (v : Verdict) (n : Nat) : reachesLimit l v n = true ↔ v = .blind ∧ n < l ∧ min 15 (n + 1) = l := by
    cases v <;> simp [reachesLimit, streakAfter]
  unfold watchLostBy
  cases limit with
  | none => simp
  | some l =>
    cases hx : resultFor xs p with
    | none => simp
    | some x => simp only [hreaches, Option.some.injEq, exists_eq_left']

/-- WATCH LOST is raised for a profile of a list (R82). -/
theorem any_watchLostBy_iff (setup : Option Setup) (xs : List SummaryEntry) (profiles : List Profile) :
    profiles.any (watchLostBy (setup.map Setup.blindLimit) xs) = true ↔
      ∃ su, setup = some su ∧ ∃ p ∈ profiles, ∃ x, resultFor xs p = some x ∧
        x.verdict = .blind ∧ p.blindStreak < su.blindLimit ∧ min 15 (p.blindStreak + 1) = su.blindLimit := by
  simp only [List.any_eq_true, watchLostBy_iff]
  cases setup with
  | none => simp
  | some su => simp only [Option.map_some, Option.some.injEq, exists_eq_left']

namespace State

variable {s : State}

/-- The flags after a completion: each condition once, for its cause (R84, R87, R101). -/
theorem isIn_completion (w : State) (u : ListRun) {full : Bool} {noRoom : Prop} (hfull : full = true ↔ noRoom)
    (profiles : List Profile) (limited : Profile → Bool) (setup : Option Setup) (xs : List SummaryEntry) (c : Condition) :
    c.isIn ((w.raiseIf full .queueOverrun).raiseJudged u (profiles.any limited)
        (profiles.any (watchLostBy (setup.map Setup.blindLimit) xs))).cond.flags = true ↔
      c.isIn w.cond.flags = true ∨
      (c = .suspect ∧ u.added ≠ []) ∨ (c = .crack ∧ u.confirmed ≠ []) ∨ (c = .listFull ∧ u.full ≠ []) ∨
      (c = .driftLimit ∧ ∃ p ∈ profiles, limited p = true) ∨
      (c = .watchLost ∧ ∃ su, setup = some su ∧ ∃ p ∈ profiles, ∃ x, resultFor xs p = some x ∧
        x.verdict = .blind ∧ p.blindStreak < su.blindLimit ∧ min 15 (p.blindStreak + 1) = su.blindLimit) ∨
      (c = .queueOverrun ∧ noRoom) := by
  rw [isIn_raiseJudged, isIn_raiseIf, hfull, any_watchLostBy_iff, List.any_eq_true, and_comm (a := noRoom), or_assoc,
    or_comm (a := c = .queueOverrun ∧ noRoom)]
  simp only [or_assoc]

/-- A completion but for the records: each of its effects (R81 to R88, R90). -/
theorem applyJudgement_eq (h : s.NoIdleWaitD) (j : Judging) (slot : Fin 16) (cycle : Half) {m : MouldRecord}
    (hm : s.mould slot = some m) :
    ∃ paths portD lost, s.applyJudgement j slot cycle =
      (({ s with
        suspects := (s.judgedRun j slot cycle).list
        moulds := s.moulds.set slot.val (some (mouldAfter s.suspects slot (s.judgedResults j slot cycle) m)) slot.isLt
        verdict := { s.verdict with summary := some ⟨cycle, slot, j.mould.header.serial, s.judgedResults j slot cycle⟩ }
        trace := (s.applyTrigger (s.judgedRun j slot cycle) (s.judgedResults j slot cycle)).trace
        paths := paths, portD := portD } : State).raiseIf lost .queueOverrun).raiseJudged (s.judgedRun j slot cycle)
        (m.profiles.any (driftLimited s.suspects m.header slot (s.judgedResults j slot cycle)))
        (m.profiles.any (watchLostBy (s.tables.setup.map Setup.blindLimit) (s.judgedResults j slot cycle))) ∧
      (∀ rs, s.askedFor (s.judgedResults j slot cycle) = some rs → s.RoomForFinding →
        paths = (s.placed (.finding ⟨cycle, slot, j.mould.header.serial, rs⟩)).paths ∧
        portD = (s.placed (.finding ⟨cycle, slot, j.mould.header.serial, rs⟩)).portD) ∧
      (s.askedFor (s.judgedResults j slot cycle) = none ∨ ¬s.RoomForFinding → paths = s.paths ∧ portD = s.portD) ∧
      (lost = true ↔ (s.askedFor (s.judgedResults j slot cycle)).isSome = true ∧ ¬s.RoomForFinding) := by
  generalize hxs : s.judgedResults j slot cycle = xs
  have hunfold : s.applyJudgement j slot cycle =
      (((((s.setSuspects (s.judgedRun j slot cycle).list).applyToSlot s.suspects slot xs).replaceSummary
        ⟨cycle, slot, j.mould.header.serial, xs⟩).offerFinding ⟨cycle, slot, j.mould.header.serial, xs⟩).applyTrigger
        (s.judgedRun j slot cycle) xs).raiseJudged (s.judgedRun j slot cycle)
        ((match s.mould slot with | some m => m.profiles | none => []).any
          (driftLimited s.suspects (match s.mould slot with | some m => m.header | none => j.mould.header) slot xs))
        ((match s.mould slot with | some m => m.profiles | none => []).any
          (watchLostBy (s.tables.setup.map Setup.blindLimit) xs)) := by
    rw [← hxs]
    rfl
  have hslot : (s.setSuspects (s.judgedRun j slot cycle).list).applyToSlot s.suspects slot xs =
      { s with
        suspects := (s.judgedRun j slot cycle).list
        moulds := s.moulds.set slot.val (some (mouldAfter s.suspects slot xs m)) slot.isLt } := by
    unfold applyToSlot
    rw [show (s.setSuspects (s.judgedRun j slot cycle).list).mould slot = some m from hm]
    rfl
  rw [hslot, hm] at hunfold
  obtain ⟨paths, portD, lost, hoffer, hplaced, hkept, hlost⟩ := offerFinding_spec (s := s)
    (w := { s with
      suspects := (s.judgedRun j slot cycle).list
      moulds := s.moulds.set slot.val (some (mouldAfter s.suspects slot xs m)) slot.isLt
      verdict := { s.verdict with summary := some ⟨cycle, slot, j.mould.header.serial, xs⟩ } })
    h rfl rfl rfl rfl ⟨cycle, slot, j.mould.header.serial, xs⟩
  refine ⟨paths, portD, lost, hunfold.trans ?_, hplaced, hkept, hlost⟩
  congr 1
  refine (congrArg (applyTrigger · _ xs) hoffer).trans ?_
  rw [applyTrigger_eq, applyTrigger_trace_congr (s := s)]
  · cases lost <;> rfl
  · cases lost <;> rfl
  · cases lost <;> rfl

end State

open State in
/-- Settles O36: the effects one by one (`applyJudgement_eq`), then the records (`endJudgement_of_wait`). -/
theorem completionAppliesTheJudgement : Obligations.CompletionAppliesTheJudgement := by
  intro s j slot cycle m hidle hjudging hslot hnumber hm found run xs report room other
  have hexec : exec .judgementCompletion s = .next (settle s ((s.applyJudgement j slot cycle).endJudgement j.record)) := by
    show execJudgementCompletion s = _
    unfold execJudgementCompletion
    rw [hjudging]
    show Host.Outcome.next (settle s (s.completeJudgement j)) = _
    unfold completeJudgement
    rw [hslot, hnumber]
  obtain ⟨paths, portD, lost, happly, hplaced, hkept, hlost⟩ := applyJudgement_eq (.of hidle) j slot cycle hm
  have hflags (c : Condition) := (congrArg (c.isIn ·.cond.flags = true) happly).to_iff.trans
    (isIn_completion _ _ hlost _ _ _ _ c)
  have henables : (s.applyJudgement j slot cycle).cond.enables = s.cond.enables := by
    rw [happly, raiseJudged_enables, raiseIf_enables]
  have hframe := happly.trans (raiseJudged_raiseIf_eq _ _ _ _ _)
  rw [← happly] at hframe
  generalize s.applyJudgement j slot cycle = t at hexec hflags henables hframe
  obtain ⟨tracker, judging, hend, hfreed, hwait, hnot, huntracked, hunsync, hlast⟩ := endJudgement_spec t j.record
  have htracker : t.tracker = s.tracker := by rw [hframe]
  rw [htracker] at hfreed hwait hnot huntracked hunsync hlast
  rw [hnumber] at hfreed
  generalize t.cond = cond at hframe hflags henables
  subst hframe
  refine ⟨_, hexec, ?_⟩
  rw [hend]
  refine ⟨rfl, rfl, rfl, hfreed, hwait, hnot, huntracked, hunsync, hlast, ⟨hplaced, hkept⟩,
    fun ch ring e htrace hch => applyTrigger_running htrace hch _ _, fun h => applyTrigger_not_running h _ _, henables,
    hflags, rfl⟩

end Sys2Proof.Machine
end

section
/-! How a request's row answers: by the table of R167, by its own part with no other effect, or with its own part's effect
(R164, R165). The rows that only answer follow from it (R69, R89, R110, R173, R174, R181, R187, R189). -/

namespace Sys2Proof.Machine

namespace RequestRow

variable {s t : State} {row : Instr} {perm : Permission} {act : Act} {r : Request} {rest : List Request} {a : Answer}

/-- The answer of a check of R167 that fails. -/
theorem exec_gated (hrow : RequestRow row perm act) (hi : NoIdleWait s) (hl : LinesLaw s) (h : Served s row r rest)
    (hgate : gate perm s = some a) : exec row s = .next (s.answeredOnly r rest a) := by
  have hpopped : gate perm (s.popped rest) = some a := hgate
  rw [hrow.exec_eq]
  exact serve_answers hi hl h (by unfold answered; rw [hpopped])

/-- The answer of a request's own part, where it leaves the state as it is. -/
theorem exec_same (hrow : RequestRow row perm act) (hi : NoIdleWait s) (hl : LinesLaw s) (h : Served s row r rest)
    (hgate : gate perm s = none) (hact : act r (s.popped rest) = (s.popped rest, a)) :
    exec row s = .next (s.answeredOnly r rest a) := by
  have hpopped : gate perm (s.popped rest) = none := hgate
  rw [hrow.exec_eq]
  exact serve_answers hi hl h (by unfold answered; rw [hpopped]; exact hact)

/-- The effect and the answer of a request's own part. -/
theorem exec_effect (hrow : RequestRow row perm act) (ht : t.NoIdleWaitD) (h : Served s row r rest)
    (hgate : gate perm s = none) (hact : act r (s.popped rest) = (t, a)) :
    exec row s = .next (State.settle s (t.placed (replyTo r a))) := by
  have hpopped : gate perm (s.popped rest) = none := hgate
  rw [hrow.exec_eq]
  exact serve_effects ht h (by unfold answered; rw [hpopped]; exact hact)

/-- A request whose part changes the open load alone: nothing settles. -/
theorem exec_setLoad (hrow : RequestRow row perm act) (hi : NoIdleWait s) (hl : LinesLaw s) (h : Served s row r rest)
    (hgate : gate perm s = none) {x : Option OpenLoad} (hact : act r (s.popped rest) = ((s.popped rest).setLoad x, a)) :
    exec row s = .next (((s.popped rest).setLoad x).placed (replyTo r a)) := by
  have hport : ((s.popped rest).setLoad x).NoIdleWaitD := State.popped_noIdleWaitD hi rest
  rw [hrow.exec_effect hport h hgate hact, State.settle_quiet]
  · exact State.placed_cond _ _
  · exact (State.placed_standing _ _).trans (State.standing_congr rfl rfl rfl rfl rfl rfl rfl rfl)
  · rw [State.placed_lines, State.placed_evalLines]
    exact hl.trans (State.evalLines_congr rfl rfl rfl rfl)

/-- A request whose part changes the trace alone. -/
theorem exec_setTrace (hrow : RequestRow row .noLoad act) (hi : NoIdleWait s) (hl : LinesLaw s) (h : Served s row r rest)
    (hload : s.engine.load = none) {x : Trace} (hact : act r (s.popped rest) = ((s.popped rest).setTrace x, a)) :
    exec row s = .next { s.answeredOnly r rest a with trace := x } := by
  rw [hrow.exec_eq]
  exact serve_noLoad_setTrace hi hl hload h hact

end RequestRow

/-! ### The table of R167 -/

theorem gate_noLoad_of_none {s : State} (h : s.engine.load = none) : gate .noLoad s = none := by
  unfold gate
  rw [h]

theorem gate_noLoad_of_some {s : State} {l : OpenLoad} (h : s.engine.load = some l) :
    gate .noLoad s = some (.loadOpen l.kind l.remaining) := by
  unfold gate
  rw [h]

theorem gate_haltedOnly_of_some {s : State} {l : OpenLoad} (h : s.engine.load = some l) :
    gate .haltedOnly s = some (.loadOpen l.kind l.remaining) := by
  unfold gate
  rw [h]

theorem gate_haltedOnly_of_watching {s : State} (h : s.engine.load = none) (hw : s.engine.operating = .watching) :
    gate .haltedOnly s = some (.badState .watching) := by
  unfold gate
  rw [h]
  exact (if_pos (State.watching_eq_true.mpr hw)).trans (by rw [hw])

theorem gate_haltedOnly_of_halted {s : State} (h : s.engine.load = none) (hw : s.engine.operating = .halted) :
    gate .haltedOnly s = none := by
  have hnot : ¬s.watching = true := by rw [State.watching_eq_false.mpr hw]; exact Bool.false_ne_true
  unfold gate
  rw [h]
  exact if_neg hnot

theorem gate_withLoad_of_none {s : State} (h : s.engine.load = none) : gate .withLoad s = some .noLoad := by
  unfold gate
  rw [h]

theorem gate_withLoad_of_some {s : State} {l : OpenLoad} (h : s.engine.load = some l) : gate .withLoad s = none := by
  unfold gate
  rw [h]

theorem requestRow_haltedOnly {row : Instr} (h : row ∈ [Instr.loadSetup, .loadBandSets, .loadChannels]) :
    ∃ act, RequestRow row .haltedOnly act := by
  revert row
  simp only [List.forall_mem_cons]
  exact ⟨⟨_, .loadSetup⟩, ⟨_, .loadBandSets⟩, ⟨_, .loadChannels⟩, fun _ h => nomatch h⟩

theorem requestRow_noLoad {row : Instr}
    (h : row ∈ [Instr.loadMould, .readMould, .confirmMould, .readSuspects, .releaseSuspect, .readCycle, .clearConditions,
      .setEnables, .traceSelect, .traceFreeze, .traceUnfreeze, .traceRead, .traceOff]) : ∃ act, RequestRow row .noLoad act := by
  revert row
  simp only [List.forall_mem_cons]
  exact ⟨⟨_, .loadMould⟩, ⟨_, .readMould⟩, ⟨_, .confirmMould⟩, ⟨_, .readSuspects⟩, ⟨_, .releaseSuspect⟩, ⟨_, .readCycle⟩,
    ⟨_, .clearConditions⟩, ⟨_, .setEnables⟩, ⟨_, .traceSelect⟩, ⟨_, .traceFreeze⟩, ⟨_, .traceUnfreeze⟩, ⟨_, .traceRead⟩,
    ⟨_, .traceOff⟩, fun _ h => nomatch h⟩

theorem requestRow_withLoad {row : Instr} (h : row ∈ [Instr.loadContinue, .loadAbort]) : ∃ act, RequestRow row .withLoad act := by
  revert row
  simp only [List.forall_mem_cons]
  exact ⟨⟨_, .loadContinue⟩, ⟨_, .loadAbort⟩, fun _ h => nomatch h⟩

theorem requestRow_always {row : Instr} (h : row ∈ [Instr.identify, .readStatus, .restart, .halt, .start, .unknownRequest]) :
    ∃ act, RequestRow row .always act := by
  revert row
  simp only [List.forall_mem_cons]
  exact ⟨⟨_, .identify⟩, ⟨_, .readStatus⟩, ⟨_, .restart⟩, ⟨_, .halt⟩, ⟨_, .start⟩, ⟨_, .unknownRequest⟩, fun _ h => nomatch h⟩

/-- Every row of a request is a row of R167's table. -/
theorem requestRow_of_mem {row : Instr}
    (h : row ∈ [Instr.identify, .readStatus, .restart, .halt, .start, .loadSetup, .loadBandSets, .loadChannels, .loadMould,
      .loadContinue, .loadAbort, .readMould, .confirmMould, .readSuspects, .releaseSuspect, .readCycle, .clearConditions,
      .setEnables, .traceSelect, .traceFreeze, .traceUnfreeze, .traceRead, .traceOff, .unknownRequest]) :
    ∃ perm act, RequestRow row perm act := by
  have hpart : row ∈ [Instr.loadSetup, .loadBandSets, .loadChannels] ∨
      row ∈ [Instr.loadMould, .readMould, .confirmMould, .readSuspects, .releaseSuspect, .readCycle, .clearConditions,
        .setEnables, .traceSelect, .traceFreeze, .traceUnfreeze, .traceRead, .traceOff] ∨
      row ∈ [Instr.loadContinue, .loadAbort] ∨
      row ∈ [Instr.identify, .readStatus, .restart, .halt, .start, .unknownRequest] := by
    revert row
    decide
  rcases hpart with hpart | hpart | hpart | hpart
  · exact ⟨_, requestRow_haltedOnly hpart⟩
  · exact ⟨_, requestRow_noLoad hpart⟩
  · exact ⟨_, requestRow_withLoad hpart⟩
  · exact ⟨_, requestRow_always hpart⟩

theorem actStart_of_load {s : State} {l : OpenLoad} (h : s.engine.load = some l) (r : Request) :
    actStart r s = (s, .loadOpen l.kind l.remaining) := by
  unfold actStart
  rw [h]

/-- Settles O37: by the permission of each row (`requestRow_of_mem`). -/
theorem permissionsAndTurns : Obligations.PermissionsAndTurns := by
  unfold Obligations.PermissionsAndTurns
  refine ⟨fun s row r rest hi hl h => ⟨fun l hload hrow => ?_, fun hload hrow hw => ?_, fun hload hrow => ?_⟩,
    fun s row hrow hturn => ?_⟩
  · rcases hrow with hrow | hrow | rfl
    · obtain ⟨_, hrow⟩ := requestRow_haltedOnly hrow
      exact hrow.exec_gated hi hl h (gate_haltedOnly_of_some hload)
    · obtain ⟨_, hrow⟩ := requestRow_noLoad hrow
      exact hrow.exec_gated hi hl h (gate_noLoad_of_some hload)
    · exact RequestRow.start.exec_same hi hl h rfl (actStart_of_load (s := s.popped rest) hload r)
  · obtain ⟨_, hrow⟩ := requestRow_haltedOnly hrow
    exact hrow.exec_gated hi hl h (gate_haltedOnly_of_watching hload hw)
  · obtain ⟨_, hrow⟩ := requestRow_withLoad hrow
    exact hrow.exec_gated hi hl h (gate_withLoad_of_none hload)
  · obtain ⟨perm, act, hrow⟩ := requestRow_of_mem hrow
    rw [hrow.exec_eq]
    exact serve_waits hturn perm act

/-- Settles O38: their own parts leave the state as it is; each report is one of the state without the request. -/
theorem identityStatusAndUnknownAreAnswered : Obligations.IdentityStatusAndUnknownAreAnswered := by
  unfold Obligations.IdentityStatusAndUnknownAreAnswered
  intro s r rest hi hl
  refine ⟨fun h => ?_, fun h => ?_, fun h => ?_⟩
  · exact RequestRow.identify.exec_same hi hl h rfl rfl
  · exact RequestRow.unknownRequest.exec_same hi hl h rfl rfl
  · exact RequestRow.readStatus.exec_same hi hl h rfl rfl

/-! ### The trace buffer -/

theorem actTraceRead_of_held {s : State} {r : Request} {ch : Nat} {ring : List Copy} {c : Copy} (hi : byteAt r.body 0 ≤ 63)
    (h : s.trace = .frozen ch ring) (hc : ring[byteAt r.body 0]? = some c) :
    actTraceRead r s = (s, .ok (.traced ring.length ch (byteAt r.body 0) c)) := by
  refine (if_neg (Nat.not_le.mpr (Nat.lt_succ_of_le hi))).trans ?_
  rw [h]
  dsimp only
  rw [hc]

theorem actTraceRead_of_beyond {s : State} {r : Request} {ch : Nat} {ring : List Copy} (hi : byteAt r.body 0 ≤ 63)
    (h : s.trace = .frozen ch ring) (hc : ring.length ≤ byteAt r.body 0) : actTraceRead r s = (s, .notFound) := by
  refine (if_neg (Nat.not_le.mpr (Nat.lt_succ_of_le hi))).trans ?_
  rw [h]
  dsimp only
  rw [List.getElem?_eq_none hc]

theorem actTraceRead_of_not_frozen {s : State} {r : Request} (hi : byteAt r.body 0 ≤ 63)
    (h : ∀ ch ring, s.trace ≠ .frozen ch ring) : actTraceRead r s = (s, .badState s.engine.operating) := by
  refine (if_neg (Nat.not_le.mpr (Nat.lt_succ_of_le hi))).trans ?_
  cases htrace : s.trace with
  | frozen ch ring => exact absurd htrace (h ch ring)
  | running ch ring => rfl
  | off => rfl

/-- Settles O53: by the branches of each request's own part. -/
theorem selectReadAndOff : Obligations.SelectReadAndOff := by
  unfold Obligations.SelectReadAndOff
  intro s r rest hi hl hload
  have hgate := gate_noLoad_of_none hload
  refine ⟨fun h => ⟨fun hbad => ?_, fun hok hnone => ?_, fun hok hsome => ?_⟩,
    fun h => ⟨fun hbad => ?_, fun hok hnot => ?_, fun ch ring hok hfrozen => ⟨fun hnone => ?_, fun c hc => ?_⟩⟩, fun h => ?_⟩
  · exact RequestRow.traceSelect.exec_same hi hl h hgate (if_pos hbad)
  · exact RequestRow.traceSelect.exec_same hi hl h hgate ((if_neg (Nat.not_le.mpr (Nat.lt_succ_of_le hok))).trans (if_pos hnone))
  · exact RequestRow.traceSelect.exec_setTrace hi hl h hload
      ((if_neg (Nat.not_le.mpr (Nat.lt_succ_of_le hok))).trans (if_neg (Nat.not_le.mpr hsome)))
  · exact RequestRow.traceRead.exec_same hi hl h hgate (if_pos hbad)
  · exact RequestRow.traceRead.exec_same hi hl h hgate (actTraceRead_of_not_frozen (s := s.popped rest) hok hnot)
  · exact RequestRow.traceRead.exec_same hi hl h hgate (actTraceRead_of_beyond (s := s.popped rest) hok hfrozen hnone)
  · exact RequestRow.traceRead.exec_same hi hl h hgate (actTraceRead_of_held (s := s.popped rest) hok hfrozen hc)
  · exact RequestRow.traceOff.exec_setTrace hi hl h hload rfl

end Sys2Proof.Machine
end

section
/-! The requests that read a page, and Load Abort (R69, R89, R110, R181). -/

namespace Sys2Proof.Machine

variable {s : State} {r : Request}

/-! ### Load Abort -/

/-- Settles O47: by the gate of R167 and by the two cases of the load timer. -/
theorem loadAbortDiscardsTheLoad : Obligations.LoadAbortDiscardsTheLoad := by
  unfold Obligations.LoadAbortDiscardsTheLoad
  intro s r rest hi hl h
  refine ⟨fun hopen => ?_, fun hnone => ?_, fun hopen => ?_, fun u hnone => ?_⟩
  · obtain ⟨l, hload⟩ := Option.isSome_iff_exists.mp hopen
    exact RequestRow.loadAbort.exec_setLoad hi hl h (gate_withLoad_of_some hload) rfl
  · exact RequestRow.loadAbort.exec_gated hi hl h (gate_withLoad_of_none hnone)
  · exact State.loadTimerExpiry_of_open hopen
  · exact State.loadTimerExpiry_of_none hnone

/-! ### Pages -/

theorem nextPoint_eq {α : Type} (wp : α → Fin 24) (size : Nat) (xs : List α) : nextPoint wp size xs = (xs[size]?).map wp := by
  unfold nextPoint
  rw [List.head?_drop]

theorem actReadMould_of_bad (h : 15 < byteAt r.body 0 ∨ 23 < byteAt r.body 1) : actReadMould r s = (s, .badArgument) := by
  unfold actReadMould
  split
  case isTrue hcode => exact if_pos (h.resolve_left (Nat.not_lt.mpr (Nat.le_of_lt_succ hcode)))
  case isFalse => rfl

theorem actReadMould_of_good {slot : Fin 16} (hslot : slot.val = byteAt r.body 0) (hstart : byteAt r.body 1 ≤ 23) :
    actReadMould r s = match s.mould slot with
      | none => (s, .notFound)
      | some m =>
        let page := fromPoint Profile.watchPoint (byteAt r.body 1) m.profiles
        (s, .ok (.mould m.header m.judged (page.take 6) (nextPoint Profile.watchPoint 6 page))) := by
  obtain ⟨code, hcode⟩ := slot
  obtain rfl : code = byteAt r.body 0 := hslot
  exact (dif_pos hcode).trans (if_neg (Nat.not_le.mpr (Nat.lt_succ_of_le hstart)))

theorem actReadMould_of_empty {slot : Fin 16} (hslot : slot.val = byteAt r.body 0) (hstart : byteAt r.body 1 ≤ 23)
    (h : s.mould slot = none) : actReadMould r s = (s, .notFound) := by
  rw [actReadMould_of_good hslot hstart, h]

theorem actReadMould_of_loaded {slot : Fin 16} (hslot : slot.val = byteAt r.body 0) (hstart : byteAt r.body 1 ≤ 23)
    {m : MouldRecord} (h : s.mould slot = some m) :
    actReadMould r s =
      (s, .ok (.mould m.header m.judged ((fromPoint Profile.watchPoint (byteAt r.body 1) m.profiles).take 6)
        (((fromPoint Profile.watchPoint (byteAt r.body 1) m.profiles)[6]?).map Profile.watchPoint))) := by
  rw [actReadMould_of_good hslot hstart, h, ← nextPoint_eq]

theorem actReadCycle_of_none (hstart : byteAt r.body 0 ≤ 23) (h : s.verdict.summary = none) :
    actReadCycle r s = (s, .notFound) := by
  refine (if_neg (Nat.not_le.mpr (Nat.lt_succ_of_le hstart))).trans ?_
  rw [h]

theorem actReadCycle_of_some {x : Summary} (hstart : byteAt r.body 0 ≤ 23) (h : s.verdict.summary = some x) :
    actReadCycle r s =
      (s, .ok (.cycle x.cycle x.slot x.serial x.entries.length
        ((fromPoint SummaryEntry.watchPoint (byteAt r.body 0) x.entries).take 6)
        (((fromPoint SummaryEntry.watchPoint (byteAt r.body 0) x.entries)[6]?).map SummaryEntry.watchPoint))) := by
  refine (if_neg (Nat.not_le.mpr (Nat.lt_succ_of_le hstart))).trans ?_
  rw [h, ← nextPoint_eq]

theorem length_indexed (list : List SuspectEntry) : (indexed list).length = list.length := by
  simp [indexed]

theorem getElem?_indexed (list : List SuspectEntry) (i : Nat) : (indexed list)[i]? = (list[i]?).map fun e => (i, e) := by
  unfold indexed
  by_cases hlt : i < list.length
  · simp [List.zip, hlt]
  · simp [List.zip, hlt]

/-- Settles O48: by the branches of each request's own part. -/
theorem readsReportTheirPage : Obligations.ReadsReportTheirPage := by
  unfold Obligations.ReadsReportTheirPage
  intro s r rest hi hl hload
  have hgate := gate_noLoad_of_none hload
  refine ⟨fun h => ⟨fun hbad => ?_, fun slot hslot hstart => ⟨fun hnone => ?_, fun m hm => ?_⟩⟩,
    fun h => ⟨fun hbad => ?_, fun hstart => ⟨((indexed s.suspects).drop (byteAt r.body 0)).take 8, ?_, ?_, fun k hk => ?_⟩⟩,
    fun h => ⟨fun hbad => ?_, fun hstart => ⟨fun hnone => ?_, fun x hx => ?_⟩⟩⟩
  · exact RequestRow.readMould.exec_same hi hl h hgate (actReadMould_of_bad hbad)
  · exact RequestRow.readMould.exec_same hi hl h hgate (actReadMould_of_empty (s := s.popped rest) hslot hstart hnone)
  · exact RequestRow.readMould.exec_same hi hl h hgate (actReadMould_of_loaded (s := s.popped rest) hslot hstart hm)
  · exact RequestRow.readSuspects.exec_same hi hl h hgate (if_pos hbad)
  · exact RequestRow.readSuspects.exec_same hi hl h hgate (if_neg (Nat.not_le.mpr (Nat.lt_succ_of_le hstart)))
  · rw [List.length_take, List.length_drop, length_indexed]
    rfl
  · rw [List.getElem?_take_of_lt (by rw [List.length_take] at hk; omega), List.getElem?_drop, getElem?_indexed]
    rfl
  · exact RequestRow.readCycle.exec_same hi hl h hgate (if_pos hbad)
  · exact RequestRow.readCycle.exec_same hi hl h hgate (actReadCycle_of_none (s := s.popped rest) hstart hnone)
  · exact RequestRow.readCycle.exec_same hi hl h hgate (actReadCycle_of_some (s := s.popped rest) hstart hx)

end Sys2Proof.Machine
end

section
/-! Confirm Mould, Release Suspect, Clear Conditions and Set Enables (R44, R50, R51, R63, R70, R105, R106, R117, R124). -/

namespace Sys2Proof.Machine

variable {s : State} {r : Request}

/-! ### Slots that the records carry -/

theorem CycleRecord.isClosed_iff {x : CycleRecord} :
    x.isClosed = true ↔ x.state = .grace ∨ x.state = .wait ∨ x.state = .judging := by
  unfold isClosed
  cases x.state <;> simp

/-- A slot is carried by a record in GRACE, WAIT or JUDGING (R63). -/
theorem State.carried_iff {slot : Fin 16} :
    s.carried slot = true ↔
      ∃ i, ((s.tracker.get i).state = .grace ∨ (s.tracker.get i).state = .wait ∨ (s.tracker.get i).state = .judging) ∧
        (s.tracker.get i).slot = some slot := by
  unfold carried
  simp only [Bool.or_eq_true, Bool.and_eq_true, beq_iff_eq, CycleRecord.isClosed_iff]
  constructor
  · rintro (h | h)
    · exact ⟨.a, h⟩
    · exact ⟨.b, h⟩
  · rintro ⟨i, h⟩
    cases i with
    | a => exact .inl h
    | b => exact .inr h

/-- A slot is in use by the installed mould in WATCHING, or by a record (R63). -/
theorem State.inUse_iff {slot : Fin 16} :
    s.inUse slot = true ↔
      (s.engine.operating = .watching ∧ s.installed = some slot) ∨
      ∃ i, ((s.tracker.get i).state = .grace ∨ (s.tracker.get i).state = .wait ∨ (s.tracker.get i).state = .judging) ∧
        (s.tracker.get i).slot = some slot := by
  unfold inUse
  rw [Bool.or_eq_true, Bool.and_eq_true, beq_iff_eq, watching_eq_true, carried_iff]

/-! ### Confirm Mould -/

section
variable {code : Fin 16}

theorem actConfirmMould_of_code (hcode : code.val = byteAt r.body 0) :
    actConfirmMould r s =
      if s.monitor.clamp.debounced ≠ some true then (s, .refused .noClamp 0)
      else if s.monitor.code.debounced ≠ some code then (s, .refused .codeMismatch 0)
      else
        match s.mould code with
        | none => (s, .refused .emptySlot 0)
        | some m =>
          if m.header.serial ≠ BitVec.ofNat 32 (wordAt r.body 1) then (s, .refused .serialMismatch 0)
          else (s.setMouldState (.confirmed ⟨code, true⟩), .ok (.confirmed code m.header.serial)) := by
  obtain ⟨code, hlt⟩ := code
  obtain rfl : code = byteAt r.body 0 := hcode
  exact dif_pos hlt

theorem actConfirmMould_of_empty (hcode : code.val = byteAt r.body 0) (hclamp : s.monitor.clamp.debounced = some true)
    (hpresent : s.monitor.code.debounced = some code) (h : s.mould code = none) :
    actConfirmMould r s = (s, .refused .emptySlot 0) := by
  rw [actConfirmMould_of_code hcode, if_neg (not_not.mpr hclamp), if_neg (not_not.mpr hpresent), h]

theorem actConfirmMould_of_loaded (hcode : code.val = byteAt r.body 0) (hclamp : s.monitor.clamp.debounced = some true)
    (hpresent : s.monitor.code.debounced = some code) {m : MouldRecord} (h : s.mould code = some m) :
    actConfirmMould r s =
      if m.header.serial ≠ BitVec.ofNat 32 (wordAt r.body 1) then (s, .refused .serialMismatch 0)
      else (s.setMouldState (.confirmed ⟨code, true⟩), .ok (.confirmed code m.header.serial)) := by
  rw [actConfirmMould_of_code hcode, if_neg (not_not.mpr hclamp), if_neg (not_not.mpr hpresent), h]

end

/-- Four bytes of a body name the number that their word holds (R192). -/
theorem toNat_eq_wordAt_iff (x : Word) (b : List Byte) (i : Nat) : x.toNat = wordAt b i ↔ x = BitVec.ofNat 32 (wordAt b i) := by
  have h0 := byteAt_le b i
  have h1 := byteAt_le b (i + 1)
  have h2 := byteAt_le b (i + 2)
  have h3 := byteAt_le b (i + 2 + 1)
  have hlt : wordAt b i < 2 ^ 32 := by
    unfold wordAt halfAt
    omega
  rw [← BitVec.toNat_inj, BitVec.toNat_ofNat, Nat.mod_eq_of_lt hlt]

theorem wordAt_eq (b : List Byte) (i : Nat) :
    wordAt b i = ((byteAt b i * 256 + byteAt b (i + 1)) * 256 + byteAt b (i + 2)) * 256 + byteAt b (i + 3) := by
  unfold wordAt halfAt
  ring

/-- Settles O49: by the checks of R51 in their order. -/
theorem confirmMouldChecksThenConfirms : Obligations.ConfirmMouldChecksThenConfirms := by
  unfold Obligations.ConfirmMouldChecksThenConfirms
  intro s r rest hi hl h hload
  have hgate := gate_noLoad_of_none hload
  have hserial (m : MouldRecord) := toNat_eq_wordAt_iff m.header.serial r.body 1
  simp only [wordAt_eq] at hserial
  refine ⟨fun hbad => ?_, fun code hcode => ⟨fun hclamp => ?_, fun hclamp => ⟨fun hother => ?_, fun hpresent =>
    ⟨fun hempty => ?_, fun m hm => ⟨fun hne => ?_, fun heq => ?_⟩⟩⟩⟩⟩
  · exact RequestRow.confirmMould.exec_same hi hl h hgate (dif_neg (Nat.not_lt.mpr hbad))
  · exact RequestRow.confirmMould.exec_same hi hl h hgate ((actConfirmMould_of_code hcode).trans (if_pos hclamp))
  · exact RequestRow.confirmMould.exec_same hi hl h hgate
      ((actConfirmMould_of_code hcode).trans ((if_neg (not_not.mpr hclamp)).trans (if_pos hother)))
  · exact RequestRow.confirmMould.exec_same hi hl h hgate
      (actConfirmMould_of_empty (s := s.popped rest) hcode hclamp hpresent hempty)
  · refine RequestRow.confirmMould.exec_same hi hl h hgate
      ((actConfirmMould_of_loaded (s := s.popped rest) hcode hclamp hpresent hm).trans (if_pos ?_))
    rw [wordAt_eq]
    exact mt (hserial m).mpr hne
  · refine RequestRow.confirmMould.exec_effect (t := (s.popped rest).setMouldState (.confirmed ⟨code, true⟩))
      (State.popped_noIdleWaitD hi rest) h hgate
      ((actConfirmMould_of_loaded (s := s.popped rest) hcode hclamp hpresent hm).trans (if_neg (not_not.mpr ?_)))
    rw [wordAt_eq]
    exact (hserial m).mp heq

/-! ### The conditions -/

theorem condSet_out_of_range {b : List Byte} (h : 32768 ≤ halfAt b 0) : 128 ≤ byteAt b 0 := by
  have := byteAt_le b (0 + 1)
  unfold halfAt at h
  omega

theorem condSet_in_range {b : List Byte} (h : halfAt b 0 < 32768) : ¬128 ≤ byteAt b 0 := by
  unfold halfAt at h
  omega

/-- Settles O51: each condition by itself, in the set that is kept and in the flags that stay. -/
theorem clearingAndEnablingByTheSet : Obligations.ClearingAndEnablingByTheSet := by
  unfold Obligations.ClearingAndEnablingByTheSet
  intro s r rest hi hl hload raw named
  have hgate := gate_noLoad_of_none hload
  have hport := State.popped_noIdleWaitD hi rest
  refine ⟨fun h => ⟨fun hbad => ?_, fun hok => ⟨named &&& s.cond.flags &&& s.standing,
    s.cond.flags &&& ~~~(named &&& ~~~s.standing), fun c => ?_, fun c => ?_, ?_⟩⟩, fun h => ⟨fun hbad => ?_, fun hok => ?_⟩⟩
  · exact RequestRow.clearConditions.exec_same hi hl h hgate (if_pos (condSet_out_of_range hbad))
  · rw [Condition.isIn_and, Condition.isIn_and, State.isIn_standing, Bool.and_eq_true, Bool.and_eq_true, and_assoc]
  · rw [Condition.isIn_and, Condition.isIn_not, Condition.isIn_and, Condition.isIn_not, State.isIn_standing, Bool.and_eq_true]
    cases c.isIn named <;> simp
  · exact RequestRow.clearConditions.exec_effect (t := (s.popped rest).setCond _) hport h hgate
      (if_neg (condSet_in_range hok))
  · exact RequestRow.setEnables.exec_same hi hl h hgate (if_pos (condSet_out_of_range hbad))
  · exact RequestRow.setEnables.exec_effect (t := (s.popped rest).setCond _) hport h hgate (if_neg (condSet_in_range hok))

/-! ### Release Suspect -/

section
variable {slot : Fin 16} {wp : Fin 24}

theorem actReleaseSuspect_of_bad (h : 15 < byteAt r.body 0 ∨ 23 < byteAt r.body 1 ∨ 1 < byteAt r.body 2) :
    actReleaseSuspect r s = (s, .badArgument) :=
  dif_neg fun hgood => by omega

theorem actReleaseSuspect_of_good (hslot : slot.val = byteAt r.body 0) (hwp : wp.val = byteAt r.body 1)
    (hrelearn : byteAt r.body 2 ≤ 1) : actReleaseSuspect r s = releaseChecked s slot wp (byteAt r.body 2 == 1) := by
  obtain ⟨slot, hslot'⟩ := slot
  obtain ⟨wp, hwp'⟩ := wp
  obtain rfl : slot = byteAt r.body 0 := hslot
  obtain rfl : wp = byteAt r.body 1 := hwp
  exact dif_pos ⟨hslot', hwp', hrelearn⟩

theorem releaseChecked_of_unlisted (h : entryFor s.suspects slot wp = none) (relearn : Bool) :
    releaseChecked s slot wp relearn = (s, .notFound) := by
  unfold releaseChecked
  rw [h]

theorem releaseChecked_of_carried {e : SuspectEntry} (h : entryFor s.suspects slot wp = some e) (hc : s.carried slot = true) :
    releaseChecked s slot wp true = (s, .inUse slot) := by
  unfold releaseChecked
  rw [h, hc]
  rfl

theorem releaseChecked_without_relearn {e : SuspectEntry} (h : entryFor s.suspects slot wp = some e) :
    releaseChecked s slot wp false =
      (s.releaseEntry slot wp, .ok (.released e (removeEntry s.suspects slot wp).length false)) := by
  unfold releaseChecked
  rw [h]
  rfl

theorem releaseChecked_with_relearn {e : SuspectEntry} (h : entryFor s.suspects slot wp = some e)
    (hc : s.carried slot = false) :
    releaseChecked s slot wp true =
      (((s.releaseEntry slot wp).relearn slot wp).1,
        .ok (.released e (removeEntry s.suspects slot wp).length ((s.releaseEntry slot wp).relearn slot wp).2)) := by
  unfold releaseChecked
  rw [h, hc]
  rfl

theorem MouldRecord.watches_iff {m : MouldRecord} : m.watches wp = true ↔ ∃ p ∈ m.profiles, p.watchPoint = wp := by
  simp [watches]

theorem State.relearn_of_watched {m : MouldRecord} (hm : s.mould slot = some m) (hw : m.watches wp = true) :
    s.relearn slot wp = (s.setMould slot (m.relearn wp), true) := by
  unfold relearn
  rw [hm]
  exact if_pos hw

theorem State.relearn_of_unwatched (h : ∀ m, s.mould slot = some m → m.watches wp = false) :
    s.relearn slot wp = (s, false) := by
  unfold relearn
  cases hm : s.mould slot with
  | none => rfl
  | some m => exact if_neg (by rw [h m hm]; exact Bool.false_ne_true)

end

/-- Settles O50: by the checks of R106 in their order, then by whether a profile is relearned. -/
theorem releaseSuspectRemovesAndRelearns : Obligations.ReleaseSuspectRemovesAndRelearns := by
  unfold Obligations.ReleaseSuspectRemovesAndRelearns
  intro s r rest hi hl h hload
  have hgate := gate_noLoad_of_none hload
  have hport := State.popped_noIdleWaitD hi rest
  refine ⟨fun hbad => RequestRow.releaseSuspect.exec_same hi hl h hgate (actReleaseSuspect_of_bad hbad),
    fun slot wp hslot hwp hrelearn => ?_⟩
  have hact := actReleaseSuspect_of_good (s := s.popped rest) hslot hwp hrelearn
  have hcarried : (s.popped rest).carried slot = true ↔ _ := State.carried_iff (s := s)
  rw [← removeEntry_eq]
  refine ⟨fun hnone => ?_, fun e he => ?_⟩
  · exact RequestRow.releaseSuspect.exec_same hi hl h hgate
      (hact.trans (releaseChecked_of_unlisted (s := s.popped rest) (entryFor_eq_none.mpr hnone) _))
  have hentry : entryFor (s.popped rest).suspects slot wp = some e := he
  refine ⟨fun hone hc => ?_, fun hcase => ?_, fun m hone hc hm hw => ?_⟩
  · refine RequestRow.releaseSuspect.exec_same hi hl h hgate (hact.trans ?_)
    rw [show (byteAt r.body 2 == 1) = true from beq_iff_eq.mpr hone]
    exact releaseChecked_of_carried hentry (hcarried.mpr hc)
  · refine RequestRow.releaseSuspect.exec_effect (t := (s.popped rest).releaseEntry slot wp) hport h hgate (hact.trans ?_)
    by_cases hone : byteAt r.body 2 = 1
    · obtain ⟨hc, hw⟩ := hcase.resolve_left (fun hzero => absurd (hzero.symm.trans hone) nofun)
      rw [show (byteAt r.body 2 == 1) = true from beq_iff_eq.mpr hone,
        releaseChecked_with_relearn hentry (Bool.eq_false_iff.mpr (mt hcarried.mp hc)),
        State.relearn_of_unwatched fun m hm => Bool.eq_false_iff.mpr fun hwatch => ?_]
      · rfl
      · obtain ⟨p, hp, hpw⟩ := MouldRecord.watches_iff.mp hwatch
        exact hw m hm p hp hpw
    · rw [show (byteAt r.body 2 == 1) = false from beq_eq_false_iff_ne.mpr hone]
      exact releaseChecked_without_relearn hentry
  · refine RequestRow.releaseSuspect.exec_effect (t := ((s.popped rest).releaseEntry slot wp).setMould slot (m.relearn wp))
      hport h hgate (hact.trans ?_)
    rw [show (byteAt r.body 2 == 1) = true from beq_iff_eq.mpr hone,
      releaseChecked_with_relearn hentry (Bool.eq_false_iff.mpr (mt hcarried.mp hc)),
      State.relearn_of_watched (s := (s.popped rest).releaseEntry slot wp) hm (MouldRecord.watches_iff.mpr hw)]
    rfl

end Sys2Proof.Machine
end

section
/-! START, HALT and RESTART (R15, R18, R19, R27, R54, R130, R140, R141, R146, R161, R168 to R172). -/

namespace Sys2Proof.Machine

variable {s : State} {r : Request}

/-! ### START -/

namespace State

theorem not_watching_of_halted (h : s.engine.operating = .halted) : ¬s.watching = true := by
  rw [watching_eq_false.mpr h]
  exact Bool.false_ne_true

theorem controlOk_eq {op : OpState} (h : s.engine.operating = op) :
    s.controlOk = .ok (.control op s.tracker.a.state s.tracker.b.state) := by
  rw [← h]
  rfl

theorem startFault_of_no_setup (h : s.tables.setup = none) : s.startFault = some (.noSetup, 0) :=
  if_pos (by rw [h]; rfl)

theorem startFault_of_no_channels (h : s.tables.setup.isSome = true) (hc : s.tables.channels = []) :
    s.startFault = some (.noChannels, 0) :=
  (if_neg (by rw [Option.isNone_eq_false_iff.mpr h]; exact Bool.false_ne_true)).trans (if_pos hc)

/-- The last two checks of START, once a setup record and channels are there (R170). -/
theorem startFault_of_channels (h : s.tables.setup.isSome = true) (hc : s.tables.channels ≠ []) :
    s.startFault = match s.tables.channels.findIdx? fun e => !s.podPresent e.pod with
      | some i => some (.podAbsent, i)
      | none =>
        match s.tables.channels.findIdx? fun e => (s.tables.bandSets[e.bandSet]).isNone with
        | some i => some (.bandSetAbsent, i)
        | none => none :=
  (if_neg (by rw [Option.isNone_eq_false_iff.mpr h]; exact Bool.false_ne_true)).trans (if_neg hc)

end State

/-- The first entry of a list with a property. -/
theorem findIdx?_eq_some_of_first {α : Type} {xs : List α} {p : α → Bool} {bad : α → Prop} (hp : ∀ x, p x = true ↔ bad x) {i : Nat}
    (hi : ∃ x, xs[i]? = some x ∧ bad x) (hbefore : ∀ k x, k < i → xs[k]? = some x → ¬bad x) : xs.findIdx? p = some i := by
  obtain ⟨x, hx, hbad⟩ := hi
  obtain ⟨hlt, rfl⟩ := List.getElem?_eq_some_iff.mp hx
  refine List.findIdx?_eq_some_iff_getElem.mpr ⟨hlt, (hp _).mpr hbad, fun k hk => ?_⟩
  exact mt (hp _).mp (hbefore k _ hk (List.getElem?_eq_getElem (hk.trans hlt)))

theorem findIdx?_eq_none_of_forall {α : Type} {xs : List α} {p : α → Bool} {bad : α → Prop} (hp : ∀ x, p x = true ↔ bad x)
    (h : ∀ x ∈ xs, ¬bad x) : xs.findIdx? p = none :=
  List.findIdx?_eq_none_iff.mpr fun x hx => Bool.eq_false_iff.mpr (mt (hp x).mp (h x hx))

theorem ne_nil_of_getElem? {α : Type} {xs : List α} {i : Nat} {x : α} (h : xs[i]? = some x) : xs ≠ [] :=
  List.ne_nil_of_mem (List.mem_of_getElem? h)

theorem actStart_of_watching (hload : s.engine.load = none) (hw : s.engine.operating = .watching) :
    actStart r s = (s, s.controlOk) := by
  unfold actStart
  rw [hload]
  exact if_pos (State.watching_eq_true.mpr hw)

theorem actStart_of_fault (hload : s.engine.load = none) (hw : s.engine.operating = .halted) {reason : Reason} {item : Nat}
    (h : s.startFault = some (reason, item)) : actStart r s = (s, .refused reason item) := by
  unfold actStart
  rw [hload]
  refine (if_neg (State.not_watching_of_halted hw)).trans ?_
  rw [h]

theorem actStart_of_ready (hload : s.engine.load = none) (hw : s.engine.operating = .halted) (h : s.startFault = none) :
    actStart r s = (s.enterWatching, s.enterWatching.controlOk) := by
  unfold actStart
  rw [hload]
  refine (if_neg (State.not_watching_of_halted hw)).trans ?_
  rw [h]

/-- Settles O39: by the checks of R170 in their order. -/
theorem startEntersWatching : Obligations.StartEntersWatching := by
  unfold Obligations.StartEntersWatching
  intro s r rest hi hl h hload absent bare first
  have habsent (e : ChannelEntry) : (!s.podPresent e.pod) = true ↔ absent e :=
    Bool.not_eq_true' _ ▸ Iff.rfl
  have hbare (e : ChannelEntry) : (s.tables.bandSets[e.bandSet]).isNone = true ↔ bare e := Option.isNone_iff_eq_none
  refine ⟨fun hw => ?_, fun hw => ?_⟩
  · refine RequestRow.start.exec_same hi hl h rfl ((actStart_of_watching (s := s.popped rest) hload hw).trans ?_)
    rw [State.controlOk_eq (s := s.popped rest) hw]
    rfl
  have hrefused {reason : Reason} {item : Nat} (hfault : s.startFault = some (reason, item)) :
      exec .start s = .next (s.answeredOnly r rest (.refused reason item)) :=
    RequestRow.start.exec_same hi hl h rfl (actStart_of_fault (s := s.popped rest) hload hw hfault)
  refine ⟨fun hsetup => ?_, fun hsetup hnone => ?_, fun i hsetup hfirst => ?_, fun i hsetup hpresent hfirst => ?_,
    fun hsetup hsome hall => ?_⟩
  · exact hrefused (State.startFault_of_no_setup hsetup)
  · exact hrefused (State.startFault_of_no_channels hsetup hnone)
  · obtain ⟨⟨e, he, hbad⟩, hbefore⟩ := hfirst
    refine hrefused ((State.startFault_of_channels hsetup (ne_nil_of_getElem? he)).trans ?_)
    rw [findIdx?_eq_some_of_first habsent ⟨e, he, hbad⟩ hbefore]
  · obtain ⟨⟨e, he, hbad⟩, hbefore⟩ := hfirst
    refine hrefused ((State.startFault_of_channels hsetup (ne_nil_of_getElem? he)).trans ?_)
    rw [findIdx?_eq_none_of_forall habsent hpresent, findIdx?_eq_some_of_first hbare ⟨e, he, hbad⟩ hbefore]
  · have hready : s.startFault = none := by
      rw [State.startFault_of_channels hsetup hsome, findIdx?_eq_none_of_forall habsent fun e he => (hall e he).1,
        findIdx?_eq_none_of_forall hbare fun e he => (hall e he).2]
    have hport : (s.popped rest).enterWatching.NoIdleWaitD := State.popped_noIdleWaitD hi rest
    exact RequestRow.start.exec_effect hport h rfl (actStart_of_ready (s := s.popped rest) hload hw hready)

/-! ### HALT -/

/-- Settles O40: by the operating state, with what the entry to HALTED leaves (`State.enterHalted_eq`). -/
theorem haltAbandonsTheCycles : Obligations.HaltAbandonsTheCycles := by
  unfold Obligations.HaltAbandonsTheCycles
  intro s r rest hi hl h left
  refine ⟨fun hw => ?_, fun hw => ?_⟩
  · refine RequestRow.halt.exec_same hi hl h rfl
      ((if_neg (State.not_watching_of_halted (s := s.popped rest) hw)).trans ?_)
    rw [State.controlOk_eq (s := s.popped rest) hw]
    rfl
  · have hact : actHalt r (s.popped rest) = ((s.popped rest).enterHalted, (s.popped rest).enterHalted.controlOk) :=
      if_pos (State.watching_eq_true.mpr hw)
    rw [State.enterHalted_eq] at hact
    exact RequestRow.halt.exec_effect (by exact State.popped_noIdleWaitD hi rest) h rfl hact

/-! ### RESTART -/

namespace State

/-- No cause arises in a state whose flags are its standing causes. -/
theorem causesArise_of_flags_standing (before : State) (h : s.cond.flags = s.standing) : causesArise before s = s := by
  have hflags : s.cond.flags ||| (s.standing &&& ~~~before.standing) = s.cond.flags := by
    rw [h]
    refine CondSet.ext fun c => ?_
    rw [Condition.isIn_or, Condition.isIn_and]
    cases c.isIn s.standing <;> rfl
  unfold causesArise
  rw [hflags]
  rfl

/-- The end of a step drives the lines alone where the flags are the standing causes and no condition is enabled. -/
theorem settle_of_flags_standing (before : State) (h : s.cond.flags = s.standing) (he : s.cond.enables = 0) :
    settle before s = { s with lines := s.evalLines } := by
  have hattention : s.attention = false := by
    unfold attention
    rw [he, show s.cond.flags &&& 0 = 0 from BitVec.and_zero]
    rfl
  unfold settle offerNotice
  rw [causesArise_of_flags_standing before h, hattention, Bool.and_false]
  rfl

/-- A port's sent flow state becomes GO: a GO is due where it had sent HOLD (R141). -/
theorem setFlow_go (x : LinkPort) :
    x.setFlow .go = { x with txFlow := .go, flowDue := x.flowDue || decide (x.txFlow = .hold) } := by
  have hdue : (TxFlow.go != x.txFlow) = decide (x.txFlow = .hold) := by cases x.txFlow <;> rfl
  unfold LinkPort.setFlow
  rw [hdue]

/-- What a RESTART leaves of every block (R19, R54, R140, R141, R146, R161, R172). -/
theorem restartBlocks_eq (s : State) :
    s.restartBlocks =
      { s with
        engine := { operating := .halted, inbox := [], load := none, cause := .restart }
        tracker :=
          { a := CycleRecord.freed none, b := CycleRecord.freed none, untracked := none, unsync := false, lastClosed := none }
        exam := []
        paths := { forward := [], upward := [], own := [], passOver := 0 }
        portU := { s.portU with txFlow := .go, flowDue := s.portU.flowDue || decide (s.portU.txFlow = .hold) }
        portD := { s.portD with txFlow := .go, flowDue := s.portD.flowDue || decide (s.portD.txFlow = .hold) }
        verdict := { judging := none, summary := none }
        cond := { flags := 0, enables := 0 }
        monitor :=
          { s.monitor with
            state :=
              if s.monitor.code.debounced.isSome = true ∧ s.monitor.clamp.debounced = some true then .unconfirmed
              else .none }
        pods := Vector.replicate 8 { state := .live, timer := .stopped }
        trace := .off } := by
  unfold restartBlocks
  rw [emptyQueues_eq, restPods_eq, ← setFlow_go, ← setFlow_go]
  rfl

end State

/-- Settles O41: every block as the Restart leaves it, whose flags are its standing causes. -/
theorem restartKeepsAndClears : Obligations.RestartKeepsAndClears := by
  unfold Obligations.RestartKeepsAndClears
  intro s r rest h u w v
  have hu : (s.popped rest).restartBlocks = u := State.restartBlocks_eq (s.popped rest)
  have hw : (s.popped rest).restarted = w := by
    unfold State.restarted
    rw [hu]
    rfl
  have hidle : w.NoIdleWaitD := fun _ _ => ⟨rfl, rfl⟩
  have hstanding : v.standing = u.standing :=
    (State.placed_standing _ _).trans (State.standing_congr rfl rfl rfl rfl rfl rfl rfl rfl)
  have hcond : v.cond = { flags := u.standing, enables := 0 } := State.placed_cond _ _
  have hact : actRestart r (s.popped rest) = (w, .ok (.restarted .halted .restart)) := by
    rw [← hw]
    rfl
  rw [RequestRow.restart.exec_effect hidle h rfl hact]
  exact congrArg Host.Outcome.next (State.settle_of_flags_standing s (by rw [hcond, hstanding]) (by rw [hcond]))

end Sys2Proof.Machine
end

section
/-! Loads that open, go on, or commit in the same step (R63, R64, R177 to R179, R182), and the layout of their records (R20,
R56, R57, R192, R194). -/

namespace Sys2Proof.Machine

variable {s : State} {r : Request} {rest : List Request} {a : Answer}

/-! ### Tables replaced in one step -/

namespace State

theorem placed_setTables (s : State) (x : Tables) (f : OwnFrame) : (s.setTables x).placed f = (s.placed f).setTables x := by
  simp only [placed, apply_ite (State.setTables · x)]
  rfl

/-- The standing causes read no table but the setup record. -/
theorem standing_setTables {x : Tables} (hx : x.setup = s.tables.setup) : (s.setTables x).standing = s.standing := by
  have hpods : (s.setTables x).podSilentCause = s.podSilentCause := by
    have hpresent : (s.setTables x).podPresent = s.podPresent := funext (podPresent_congr hx)
    unfold podSilentCause
    rw [hpresent]
    rfl
  have hcauses : (s.setTables x).causeHolds = s.causeHolds := by
    funext c
    cases c with
    | podSilent => exact hpods
    | _ => rfl
  unfold standing
  rw [hcauses]

/-- The end of a step does nothing to a Reply in a state that differs from the one before in tables other than the setup
record, and in the trace. -/
theorem settle_setTables_placed (hl : LinesLaw s) {x : Tables} (hx : x.setup = s.tables.setup) (y : Trace) (f : OwnFrame) :
    settle s ((((s.popped rest).setTables x).setTrace y).placed f) = (((s.popped rest).setTables x).setTrace y).placed f := by
  have hstanding : (((s.popped rest).setTables x).setTrace y).standing = s.standing :=
    calc (((s.popped rest).setTables x).setTrace y).standing
      _ = ((s.popped rest).setTables x).standing := standing_congr rfl rfl rfl rfl rfl rfl rfl rfl
      _ = (s.popped rest).standing := standing_setTables hx
      _ = s.standing := standing_congr rfl rfl rfl rfl rfl rfl rfl rfl
  have hlines : (((s.popped rest).setTables x).setTrace y).evalLines = s.evalLines := evalLines_congr rfl hx rfl rfl
  refine settle_quiet (placed_cond _ _) ((placed_standing _ _).trans hstanding) ?_
  rw [placed_lines, placed_evalLines, hlines]
  exact hl

end State

/-- A request whose part replaces tables other than the setup record, and the trace. -/
theorem RequestRow.exec_setTables {row : Instr} {perm : Permission} {act : Act} (hrow : RequestRow row perm act)
    (hi : NoIdleWait s) (hl : LinesLaw s) (h : Served s row r rest) (hgate : gate perm s = none) {x : Tables}
    (hx : x.setup = s.tables.setup) {y : Trace} (hact : act r (s.popped rest) = (((s.popped rest).setTables x).setTrace y, a)) :
    exec row s = .next { s.answeredOnly r rest a with tables := x, trace := y } := by
  have hport : (((s.popped rest).setTables x).setTrace y).NoIdleWaitD := State.popped_noIdleWaitD hi rest
  rw [hrow.exec_effect hport h hgate hact, State.settle_setTables_placed hl hx, State.placed_setTrace, State.placed_setTables]
  rfl

/-! ### A load's frame that was accepted -/

/-- A load that goes on stays open, and the answer is MORE (R177). -/
theorem RequestRow.exec_more {row : Instr} {perm : Permission} {act : Act} (hrow : RequestRow row perm act)
    (hi : NoIdleWait s) (hl : LinesLaw s) (h : Served s row r rest) (hgate : gate perm s = none) {l : OpenLoad}
    (hact : act r (s.popped rest) = proceedLoad l (s.popped rest)) (hmore : l.remaining ≠ 0) :
    exec row s =
      .next (({ s with engine := { s.engine with inbox := rest, load := some l } } : State).placed
        (replyTo r (.more l.remaining))) :=
  hrow.exec_setLoad hi hl h hgate (hact.trans (if_neg hmore))

/-- A load with no record remaining commits in the same step (R180). -/
theorem RequestRow.exec_commit {row : Instr} {perm : Permission} {act : Act} (hrow : RequestRow row perm act)
    (hi : NoIdleWait s) (h : Served s row r rest) (hgate : gate perm s = none) {l : OpenLoad}
    (hact : act r (s.popped rest) = proceedLoad l (s.popped rest)) (hlast : l.remaining = 0) :
    exec row s =
      .next (State.settle s ((commitLoad l (s.popped rest)).1.placed (replyTo r (commitLoad l (s.popped rest)).2))) := by
  have hcore := State.commitLoad_coreOnly (s.popped rest) l
  have hport : (commitLoad l (s.popped rest)).1.NoIdleWaitD := by
    unfold State.NoIdleWaitD
    rw [hcore.portD, hcore.paths]
    exact State.popped_noIdleWaitD hi rest
  exact hrow.exec_effect hport h hgate (hact.trans (if_pos hlast))

/-! ### Load Continue -/

/-- A Load Continue that fits appends its records (R179). -/
theorem actLoadContinue_of_fit {l : OpenLoad} (hload : s.engine.load = some l)
    (h : ¬(byteAt r.body 0 = 0 ∨ continueLimit l.kind < byteAt r.body 0 ∨ l.remaining < byteAt r.body 0)) :
    actLoadContinue r s =
      proceedLoad ⟨l.staging.extend r.body (byteAt r.body 0), l.declared, l.remaining - byteAt r.body 0, s.loadTime⟩ s := by
  unfold actLoadContinue
  rw [hload]
  exact if_neg h

theorem actLoadContinue_of_misfit {l : OpenLoad} (hload : s.engine.load = some l)
    (h : byteAt r.body 0 = 0 ∨ continueLimit l.kind < byteAt r.body 0 ∨ l.remaining < byteAt r.body 0) :
    actLoadContinue r s = (s, .badArgument) := by
  unfold actLoadContinue
  rw [hload]
  exact if_pos h

/-- Settles O44: by whether the records fit and whether some remain. -/
theorem loadContinueAppendsOrCommits : Obligations.LoadContinueAppendsOrCommits := by
  unfold Obligations.LoadContinueAppendsOrCommits
  intro s r rest l hi hl h hload given most next
  have hgate := gate_withLoad_of_some hload
  have hmost : continueLimit l.kind = most := by
    show continueLimit l.kind = match l.kind with | .channels => 4 | .mould => 3
    cases l.kind <;> rfl
  have hnext (hfit : ¬(given = 0 ∨ most < given ∨ l.remaining < given)) :
      actLoadContinue r (s.popped rest) = proceedLoad next (s.popped rest) := by
    rw [← hmost] at hfit
    exact actLoadContinue_of_fit (s := s.popped rest) hload hfit
  refine ⟨fun hmisfit => ?_, fun hpos hle hlt => ?_, fun hpos hle heq => ?_⟩
  · rw [← hmost] at hmisfit
    exact RequestRow.loadContinue.exec_same hi hl h hgate (actLoadContinue_of_misfit (s := s.popped rest) hload hmisfit)
  · exact RequestRow.loadContinue.exec_more hi hl h hgate (hnext (by omega)) (Nat.sub_ne_zero_of_lt hlt)
  · exact RequestRow.loadContinue.exec_commit hi h hgate (hnext (by omega)) (Nat.sub_eq_zero_of_le heq.ge)

/-! ### Load Channels and Load Mould -/

theorem actLoadChannels_of_empty (htotal : byteAt r.body 0 = 0) (hgiven : byteAt r.body 1 = 0) :
    actLoadChannels r s = (s.replaceChannels [], .done 0) :=
  (if_neg (by omega)).trans (if_pos htotal)

theorem actLoadChannels_of_fit (hpos : byteAt r.body 0 ≠ 0) (htotal : byteAt r.body 0 ≤ 32)
    (hgiven : byteAt r.body 1 ≤ byteAt r.body 0) (hfour : byteAt r.body 1 ≤ 4) :
    actLoadChannels r s =
      proceedLoad ⟨.channels (rawChannelsAt r.body 2 (byteAt r.body 1)), byteAt r.body 0, byteAt r.body 0 - byteAt r.body 1,
        s.loadTime⟩ s :=
  (if_neg (by omega)).trans (if_neg hpos)

section
variable {slot : Fin 16}

theorem actLoadMould_of_slot (hslot : slot.val = byteAt r.body 0) :
    actLoadMould r s =
      if !inRange 1 24 (byteAt r.body 13) || decide (byteAt r.body 13 < byteAt r.body 14) || decide (3 < byteAt r.body 14) then
        (s, .badArgument)
      else if s.inUse slot then (s, .inUse slot)
      else
        proceedLoad ⟨.mould slot (rawHeaderAt r.body 1) (rawProfilesAt r.body 15 (byteAt r.body 14)), byteAt r.body 13,
          byteAt r.body 13 - byteAt r.body 14, s.loadTime⟩ s := by
  obtain ⟨slot, hlt⟩ := slot
  obtain rfl : slot = byteAt r.body 0 := hslot
  exact dif_pos hlt

theorem loadMould_misfit_iff (w given : Nat) :
    (!inRange 1 24 w || decide (w < given) || decide (3 < given)) = true ↔ w = 0 ∨ 24 < w ∨ w < given ∨ 3 < given := by
  rw [Bool.or_eq_true, Bool.or_eq_true, Bool.not_eq_true', ← Bool.not_eq_true, inRange_iff, decide_eq_true_iff,
    decide_eq_true_iff]
  omega

theorem actLoadMould_of_bad
    (h : 15 < byteAt r.body 0 ∨ byteAt r.body 13 = 0 ∨ 24 < byteAt r.body 13 ∨ byteAt r.body 13 < byteAt r.body 14 ∨
      3 < byteAt r.body 14) : actLoadMould r s = (s, .badArgument) := by
  by_cases hcode : byteAt r.body 0 < 16
  · exact (actLoadMould_of_slot (slot := ⟨_, hcode⟩) rfl).trans
      (if_pos ((loadMould_misfit_iff _ _).mpr (h.resolve_left (by omega))))
  · exact dif_neg hcode

theorem actLoadMould_of_used (hslot : slot.val = byteAt r.body 0)
    (h : ¬(byteAt r.body 13 = 0 ∨ 24 < byteAt r.body 13 ∨ byteAt r.body 13 < byteAt r.body 14 ∨ 3 < byteAt r.body 14))
    (hused : s.inUse slot = true) : actLoadMould r s = (s, .inUse slot) :=
  (actLoadMould_of_slot hslot).trans ((if_neg (mt (loadMould_misfit_iff _ _).mp h)).trans (if_pos hused))

theorem actLoadMould_of_unused (hslot : slot.val = byteAt r.body 0)
    (h : ¬(byteAt r.body 13 = 0 ∨ 24 < byteAt r.body 13 ∨ byteAt r.body 13 < byteAt r.body 14 ∨ 3 < byteAt r.body 14))
    (hunused : ¬s.inUse slot = true) :
    actLoadMould r s =
      proceedLoad ⟨.mould slot (rawHeaderAt r.body 1) (rawProfilesAt r.body 15 (byteAt r.body 14)), byteAt r.body 13,
        byteAt r.body 13 - byteAt r.body 14, s.loadTime⟩ s :=
  (actLoadMould_of_slot hslot).trans ((if_neg (mt (loadMould_misfit_iff _ _).mp h)).trans (if_neg hunused))

end

/-- Settles O43: the layouts field by field, then each load by whether it fits and whether records remain. -/
theorem loadsOpenOrCommit : Obligations.LoadsOpenOrCommit := by
  unfold Obligations.LoadsOpenOrCommit
  refine ⟨fun body off n => ⟨rfl, rfl, (toNat_eq_wordAt_iff _ _ _).mpr rfl, rfl⟩,
    fun s r rest hi hl h hload hw => ?_, fun s r rest hi hl h hload => ?_⟩
  · intro total given load
    have hgate := gate_haltedOnly_of_halted hload hw
    refine ⟨fun hbad => ?_, fun htotal hgiven => ?_, fun htotal hlt hfour => ?_, fun hpos heq hfour => ?_⟩
    · exact RequestRow.loadChannels.exec_same hi hl h hgate (if_pos hbad)
    · exact RequestRow.loadChannels.exec_setTables (x := { s.tables with channels := [] }) hi hl h hgate rfl (actLoadChannels_of_empty htotal hgiven)
    · exact RequestRow.loadChannels.exec_more (l := load) hi hl h hgate
        (actLoadChannels_of_fit (Nat.ne_zero_of_lt hlt) htotal hlt.le hfour) (Nat.sub_ne_zero_of_lt hlt)
    · exact RequestRow.loadChannels.exec_commit (l := load) hi h hgate
        (actLoadChannels_of_fit hpos.ne' (heq.symm.trans_le (hfour.trans (by omega))) heq.le hfour)
        (Nat.sub_eq_zero_of_le heq.ge)
  · intro code w given used
    have hgate := gate_noLoad_of_none hload
    refine ⟨fun hbad => ?_, fun slot hslot hw hmax hle hthree => ?_⟩
    · exact RequestRow.loadMould.exec_same hi hl h hgate (actLoadMould_of_bad hbad)
    have hfit : ¬(w = 0 ∨ 24 < w ∨ w < given ∨ 3 < given) := by omega
    have hused : (s.popped rest).inUse slot = true ↔ used slot := State.inUse_iff (s := s.popped rest)
    refine ⟨fun hu => ?_, fun hu hlt => ?_, fun hu heq => ?_⟩
    · exact RequestRow.loadMould.exec_same hi hl h hgate (actLoadMould_of_used (s := s.popped rest) hslot hfit (hused.mpr hu))
    · exact RequestRow.loadMould.exec_more hi hl h hgate (actLoadMould_of_unused (s := s.popped rest) hslot hfit (mt hused.mp hu))
        (Nat.sub_ne_zero_of_lt hlt)
    · exact RequestRow.loadMould.exec_commit hi h hgate (actLoadMould_of_unused (s := s.popped rest) hslot hfit (mt hused.mp hu))
        (Nat.sub_eq_zero_of_le heq.ge)

end Sys2Proof.Machine
end

section
/-! The commit of a channel load: its checks in their order (R20, R180). -/

namespace Sys2Proof.Machine

/-! ### One record -/

/-- The fields of a channel record lie in their ranges (R20, R180). -/
def RawChannel.Fits (c : RawChannel) : Prop :=
  1 ≤ c.pod ∧ c.pod ≤ 8 ∧ c.channel ≤ 7 ∧ c.watchPoint ≤ 23 ∧ c.bandSet ≤ 7 ∧ 1 ≤ c.hitThreshold ∧
  c.hitThreshold ≤ 32767 ∧ 1 ≤ c.deadSpan ∧ c.deadSpan ≤ 255 ∧ c.decayThreshold ≤ 2047 ∧ c.forward ≤ 1

/-- Two records name the same channel of the same pod. -/
def RawChannel.SamePair (d c : RawChannel) : Prop := d.pod = c.pod ∧ d.channel = c.channel

/-- An entry holds a record's values (R20). -/
def ChannelEntry.Spells (e : ChannelEntry) (c : RawChannel) : Prop :=
  e.pod.val + 1 = c.pod ∧ e.channel.val = c.channel ∧ e.watchPoint.val = c.watchPoint ∧ e.bandSet.val = c.bandSet ∧
  e.hitThreshold = c.hitThreshold ∧ e.deadSpan = c.deadSpan ∧ e.decayThreshold = c.decayThreshold ∧
  e.forward = (c.forward == 1)

theorem isYesNo_iff {x : Nat} : isYesNo x = true ↔ x ≤ 1 := decide_eq_true_iff

theorem RawChannel.entry?_of_fits {c : RawChannel} (h : c.Fits) : ∃ e, c.entry? = some e ∧ e.Spells c := by
  obtain ⟨hpod, hpod', hchannel, hpoint, hbandSet, hhit, hhit', hdead, hdead', hdecay, hforward⟩ := h
  refine ⟨⟨⟨c.pod - 1, by omega⟩, ⟨c.channel, by omega⟩, ⟨c.watchPoint, by omega⟩, ⟨c.bandSet, by omega⟩, c.hitThreshold,
    c.deadSpan, c.decayThreshold, c.forward == 1⟩, ?_, Nat.sub_add_cancel hpod, rfl, rfl, rfl, rfl, rfl, rfl, rfl⟩
  refine (dif_pos ⟨⟨hpod, hpod'⟩, by omega, by omega, by omega⟩).trans (if_pos ?_)
  simp only [Bool.and_eq_true, inRange_iff, isYesNo_iff]
  exact ⟨⟨⟨⟨hhit, hhit'⟩, hdead, hdead'⟩, Nat.zero_le _, hdecay⟩, hforward⟩

theorem RawChannel.entry?_of_not_fits {c : RawChannel} (h : ¬c.Fits) : c.entry? = none := by
  refine Option.eq_none_iff_forall_ne_some.mpr fun e he => h ?_
  unfold entry? at he
  split at he
  case isTrue hranges =>
    split at he
    case isTrue hfields =>
      simp only [Bool.and_eq_true, inRange_iff, isYesNo_iff] at hfields
      obtain ⟨⟨hpod, hpod'⟩, hchannel, hpoint, hbandSet⟩ := hranges
      obtain ⟨⟨⟨⟨hhit, hhit'⟩, hdead, hdead'⟩, -, hdecay⟩, hforward⟩ := hfields
      exact ⟨hpod, hpod', by omega, by omega, by omega, hhit, hhit', hdead, hdead', hdecay, hforward⟩
    case isFalse => cases he
  case isFalse => cases he

section
variable {d e : ChannelEntry} {b c : RawChannel}

theorem ChannelEntry.Spells.samePair_iff (hd : d.Spells b) (he : e.Spells c) :
    (d.pod == e.pod && d.channel == e.channel) = true ↔ b.SamePair c := by
  obtain ⟨hdpod, hdchannel, -⟩ := hd
  obtain ⟨hepod, hechannel, -⟩ := he
  rw [Bool.and_eq_true, beq_iff_eq, beq_iff_eq, Fin.ext_iff, Fin.ext_iff, RawChannel.SamePair, ← hdpod, ← hepod, ← hdchannel,
    ← hechannel, Nat.add_right_cancel_iff]

theorem ChannelEntry.Spells.samePoint_iff (hd : d.Spells b) (he : e.Spells c) :
    (d.watchPoint == e.watchPoint) = true ↔ b.watchPoint = c.watchPoint := by
  obtain ⟨-, -, hdpoint, -⟩ := hd
  obtain ⟨-, -, hepoint, -⟩ := he
  rw [beq_iff_eq, Fin.ext_iff, ← hdpoint, ← hepoint]

end

/-! ### One step of the commit -/

/-- A table spells the records before: one entry a record, in their order (R180). -/
abbrev SpellsAll (table : List ChannelEntry) (records : List RawChannel) : Prop :=
  List.Forall₂ ChannelEntry.Spells table records

theorem SpellsAll.any_iff {table : List ChannelEntry} {records : List RawChannel} (h : SpellsAll table records)
    {p : ChannelEntry → Bool} {q : RawChannel → Prop} (hpq : ∀ d b, d.Spells b → (p d = true ↔ q b)) :
    table.any p = true ↔ ∃ b ∈ records, q b := by
  induction h with
  | nil => simp
  | cons hd _ ih => rw [List.any_cons, Bool.or_eq_true, ih, hpq _ _ hd, List.exists_mem_cons_iff]

section
variable {earlier : List RawChannel} {table : List ChannelEntry} {c : RawChannel} (h : SpellsAll table earlier)
  (later : List RawChannel) (i : Nat)

theorem channelsCommit_of_not_fits (table : List ChannelEntry) (hc : ¬c.Fits) :
    channelsCommit (c :: later) table i = .error (.fieldRange, i) := by
  rw [channelsCommit, RawChannel.entry?_of_not_fits hc]

include h

theorem channelsCommit_of_samePair (hc : c.Fits) (hpair : ∃ d ∈ earlier, d.SamePair c) :
    channelsCommit (c :: later) table i = .error (.duplicateChannel, i) := by
  obtain ⟨e, he, hspells⟩ := RawChannel.entry?_of_fits hc
  rw [channelsCommit, he]
  exact if_pos ((h.any_iff fun d b hd => hd.samePair_iff hspells).mpr hpair)

theorem channelsCommit_of_samePoint (hc : c.Fits) (hpair : ¬∃ d ∈ earlier, d.SamePair c)
    (hpoint : ∃ d ∈ earlier, d.watchPoint = c.watchPoint) :
    channelsCommit (c :: later) table i = .error (.duplicateWatchPoint, i) := by
  obtain ⟨e, he, hspells⟩ := RawChannel.entry?_of_fits hc
  rw [channelsCommit, he]
  exact (if_neg (mt (h.any_iff fun d b hd => hd.samePair_iff hspells).mp hpair)).trans
    (if_pos ((h.any_iff fun d b hd => hd.samePoint_iff hspells).mpr hpoint))

theorem channelsCommit_of_passes (hc : c.Fits) (hpair : ¬∃ d ∈ earlier, d.SamePair c)
    (hpoint : ¬∃ d ∈ earlier, d.watchPoint = c.watchPoint) :
    ∃ e : ChannelEntry, e.Spells c ∧ channelsCommit (c :: later) table i = channelsCommit later (table ++ [e]) (i + 1) := by
  obtain ⟨e, he, hspells⟩ := RawChannel.entry?_of_fits hc
  refine ⟨e, hspells, ?_⟩
  rw [channelsCommit, he]
  exact (if_neg (mt (h.any_iff fun d b hd => hd.samePair_iff hspells).mp hpair)).trans
    (if_neg (mt (h.any_iff fun d b hd => hd.samePoint_iff hspells).mp hpoint))

end

/-! ### The whole commit -/

/-- A record passes the checks after the records before it (R180). -/
def RawChannel.Passes (earlier : List RawChannel) (c : RawChannel) : Prop :=
  c.Fits ∧ (¬∃ d ∈ earlier, d.SamePair c) ∧ ¬∃ d ∈ earlier, d.watchPoint = c.watchPoint

/-- Records that pass, each after those before it, become the table's entries in load order. -/
theorem channelsCommit_append (xs : List RawChannel) (h : ∀ pre c post, xs = pre ++ c :: post → c.Passes pre)
    (later : List RawChannel) :
    ∃ table, SpellsAll table xs ∧ channelsCommit (xs ++ later) [] 1 = channelsCommit later table (xs.length + 1) := by
  induction xs using List.reverseRecOn generalizing later with
  | nil => exact ⟨[], .nil, rfl⟩
  | append_singleton xs c ih =>
    obtain ⟨table, hspells, hstep⟩ := ih (fun pre d post hxs => h pre d (post ++ [c]) (by simp [hxs])) (c :: later)
    obtain ⟨hc, hpair, hpoint⟩ := h xs c [] rfl
    obtain ⟨e, he, hcommit⟩ := channelsCommit_of_passes hspells later (xs.length + 1) hc hpair hpoint
    refine ⟨table ++ [e], List.rel_append hspells (.cons he .nil), ?_⟩
    rw [List.append_assoc, List.singleton_append, hstep, hcommit, List.length_append, List.length_singleton]

/-- The records before a position, as the list that ends there. -/
theorem exists_mem_take_iff {α : Type} {xs : List α} {i : Nat} {p : α → Prop} :
    (∃ d ∈ xs.take i, p d) ↔ ∃ k d, k < i ∧ xs[k]? = some d ∧ p d := by
  constructor
  · rintro ⟨d, hd, hp⟩
    obtain ⟨k, hk, hget⟩ := List.mem_take_iff_getElem.mp hd
    exact ⟨k, d, by omega, by rw [List.getElem?_eq_getElem (by omega), hget], hp⟩
  · rintro ⟨k, d, hk, hget, hp⟩
    obtain ⟨hlt, rfl⟩ := List.getElem?_eq_some_iff.mp hget
    exact ⟨_, List.mem_take_iff_getElem.mpr ⟨k, by omega, rfl⟩, hp⟩

/-- A list cut before a position. -/
theorem eq_take_append_cons {α : Type} {xs : List α} {i : Nat} {c : α} (h : xs[i]? = some c) :
    xs = xs.take i ++ c :: xs.drop (i + 1) := by
  obtain ⟨hlt, rfl⟩ := List.getElem?_eq_some_iff.mp h
  rw [← List.drop_eq_getElem_cons hlt, List.take_append_drop]

theorem length_take_of_getElem? {α : Type} {xs : List α} {i : Nat} {c : α} (h : xs[i]? = some c) : (xs.take i).length = i := by
  obtain ⟨hlt, -⟩ := List.getElem?_eq_some_iff.mp h
  exact List.length_take_of_le hlt.le

/-- What holds of each item and those before it, by its position, holds by where the list is cut. -/
theorem of_cut {α : Type} {P : List α → α → Prop} {xs pre post : List α} {d : α}
    (h : ∀ k d, xs[k]? = some d → P (xs.take k) d) (hcut : xs = pre ++ d :: post) : P pre d := by
  have hpre := h pre.length d (by rw [hcut]; simp)
  rwa [hcut, List.take_left] at hpre

theorem of_take {α : Type} {P : List α → α → Prop} {xs : List α} {i : Nat}
    (h : ∀ k d, k < i → xs[k]? = some d → P (xs.take k) d) (k : Nat) (d : α) (hd : (xs.take i)[k]? = some d) :
    P ((xs.take i).take k) d := by
  have hlt : k < i := by
    have hlength := (List.getElem?_eq_some_iff.mp hd).1
    rw [List.length_take] at hlength
    omega
  rw [List.getElem?_take_of_lt hlt] at hd
  rw [List.take_take, Nat.min_eq_left hlt.le]
  exact h k d hlt hd

/-- The checks of a record, with those before it named by their positions. -/
theorem RawChannel.passes_take_iff {records : List RawChannel} {i : Nat} {c : RawChannel} :
    c.Passes (records.take i) ↔
      c.Fits ∧ (¬∃ k d, k < i ∧ records[k]? = some d ∧ d.SamePair c) ∧
        ¬∃ k d, k < i ∧ records[k]? = some d ∧ d.watchPoint = c.watchPoint := by
  unfold Passes
  rw [exists_mem_take_iff, exists_mem_take_iff]

/-- The commit reaches the first record that fails with the entries of those before it. -/
theorem channelsCommit_reaches {records : List RawChannel} {i : Nat} {c : RawChannel} (hc : records[i]? = some c)
    (h : ∀ (k : Nat) (d : RawChannel), k < i → records[k]? = some d → d.Passes (records.take k)) :
    ∃ table, SpellsAll table (records.take i) ∧
      channelsCommit records [] 1 = channelsCommit (c :: records.drop (i + 1)) table (i + 1) := by
  obtain ⟨table, hspells, hstep⟩ := channelsCommit_append _ (fun _ _ _ => of_cut (of_take h)) (c :: records.drop (i + 1))
  rw [← eq_take_append_cons hc, length_take_of_getElem? hc] at hstep
  exact ⟨table, hspells, hstep⟩

/-- The table of a commit that passes (R180). -/
theorem channelsCommit_passes {records : List RawChannel}
    (h : ∀ (k : Nat) (d : RawChannel), records[k]? = some d → d.Passes (records.take k)) :
    ∃ table, SpellsAll table records ∧ channelsCommit records [] 1 = .ok table := by
  obtain ⟨table, hspells, hstep⟩ := channelsCommit_append records (fun _ _ _ => of_cut h) []
  rw [List.append_nil] at hstep
  exact ⟨table, hspells, hstep⟩

/-! ### The load -/

section
variable {s : State} {l : OpenLoad} {records : List RawChannel} (h : l.staging = .channels records)
include h

theorem commitLoad_channels_error {reason : Reason} {item : Nat} (herr : channelsCommit records [] 1 = .error (reason, item)) :
    commitLoad l s = (s.setLoad none, .refused reason item) := by
  unfold commitLoad
  rw [h]
  dsimp only
  rw [herr]

theorem commitLoad_channels_ok {table : List ChannelEntry} (hok : channelsCommit records [] 1 = .ok table) :
    commitLoad l s = ((s.setLoad none).replaceChannels table, .done table.length) := by
  unfold commitLoad
  rw [h]
  dsimp only
  rw [hok]

end

/-- Settles O45: the commit reaches each record with the entries of those before it, or the end with the whole table. -/
theorem channelCommitChecksInOrder : Obligations.ChannelCommitChecksInOrder := by
  unfold Obligations.ChannelCommitChecksInOrder
  intro s l records hl x fits earlier pair point passes ended
  have hpasses {i : Nat} {c : RawChannel} : passes i c ↔ c.Passes (records.take i) := RawChannel.passes_take_iff.symm
  refine ⟨fun i c hc hbefore => ?_, fun hall => ?_⟩
  · obtain ⟨table, hspells, hreach⟩ := channelsCommit_reaches hc fun k d hk hd => hpasses.mp (hbefore k d hk hd)
    have hrefused {reason : Reason}
        (hstep : channelsCommit (c :: records.drop (i + 1)) table (i + 1) = .error (reason, i + 1)) :
        x = (ended, .refused reason (i + 1)) := commitLoad_channels_error hl (hreach.trans hstep)
    refine ⟨fun hfit => ?_, fun hfit hpair => ?_, fun hfit hpair hpoint => ?_⟩
    · exact hrefused (channelsCommit_of_not_fits _ _ _ hfit)
    · exact hrefused (channelsCommit_of_samePair hspells _ _ hfit (exists_mem_take_iff.mpr hpair))
    · exact hrefused (channelsCommit_of_samePoint hspells _ _ hfit (mt exists_mem_take_iff.mp hpair)
        (exists_mem_take_iff.mpr hpoint))
  · obtain ⟨table, hspells, hcommit⟩ := channelsCommit_passes fun k d hd => hpasses.mp (hall k d hd)
    have hlength : table.length = records.length := hspells.length_eq
    refine ⟨table, ?_, hlength, fun i c e hc he => ?_⟩
    · rw [← hlength]
      exact commitLoad_channels_ok hl hcommit
    · obtain ⟨hi, rfl⟩ := List.getElem?_eq_some_iff.mp hc
      obtain ⟨hi', rfl⟩ := List.getElem?_eq_some_iff.mp he
      exact hspells.get hi' hi

end Sys2Proof.Machine
end

section
/-! The commit of a mould load: its checks in their order, and what it writes (R47, R56 to R59, R65, R66, R67, R109; log 11). -/

namespace Sys2Proof.Machine

/-! ### Check 1: the order of the watch points -/

/-- The profile at an index has a watch point above that of the profile before it (R65 check 1). -/
def RisesAt (xs : List RawProfile) (i : Nat) : Prop :=
  ∀ p q : RawProfile, 0 < i → xs[i - 1]? = some p → xs[i]? = some q → p.watchPoint < q.watchPoint

section
variable {b x : RawProfile} {xs : List RawProfile}

theorem risesAt_zero : RisesAt xs 0 := fun _ _ h => absurd h (lt_irrefl 0)

theorem risesAt_one_cons : RisesAt (b :: x :: xs) 1 ↔ b.watchPoint < x.watchPoint := by
  simp [RisesAt]

theorem risesAt_cons_succ {n : Nat} : RisesAt (b :: xs) (n + 2) ↔ RisesAt xs (n + 1) := by
  simp [RisesAt]

theorem orderFault_of_rises (h : ∀ i, i < (b :: xs).length → RisesAt (b :: xs) i) (j : Nat) :
    orderFault (some b.watchPoint) xs j = none := by
  induction xs generalizing b j with
  | nil => rfl
  | cons x xs ih =>
    have hx : b.watchPoint < x.watchPoint := risesAt_one_cons.mp (h 1 (by simp))
    refine (if_pos hx).trans (ih (fun i hi => ?_) (j + 1))
    cases i with
    | zero => exact risesAt_zero
    | succ n => exact risesAt_cons_succ.mp (h (n + 2) (Nat.succ_lt_succ hi))

theorem orderFault_of_first {n : Nat} (hn : n + 1 < (b :: xs).length) (hfault : ¬RisesAt (b :: xs) (n + 1))
    (hbefore : ∀ k, k < n + 1 → RisesAt (b :: xs) k) (j : Nat) : orderFault (some b.watchPoint) xs j = some (j + n) := by
  induction xs generalizing b n j with
  | nil => exact absurd hn (by simp)
  | cons x xs ih =>
    cases n with
    | zero => exact if_neg (mt risesAt_one_cons.mpr hfault)
    | succ n =>
      have hx : b.watchPoint < x.watchPoint := risesAt_one_cons.mp (hbefore 1 (by omega))
      have hrest := ih (Nat.lt_of_succ_lt_succ hn) (mt risesAt_cons_succ.mpr hfault) (fun k hk => ?_) (j + 1)
      · exact ((if_pos hx).trans hrest).trans (by rw [Nat.add_right_comm, Nat.add_assoc])
      · cases k with
        | zero => exact risesAt_zero
        | succ k => exact risesAt_cons_succ.mp (hbefore (k + 2) (Nat.succ_lt_succ hk))

end

theorem orderFault_eq_none_of_rises {xs : List RawProfile} (h : ∀ i, i < xs.length → RisesAt xs i) :
    orderFault none xs 1 = none := by
  cases xs with
  | nil => rfl
  | cons b xs => exact orderFault_of_rises h 2

theorem orderFault_eq_some_of_first {xs : List RawProfile} {i : Nat} (hi : i < xs.length) (hfault : ¬RisesAt xs i)
    (hbefore : ∀ k, k < i → RisesAt xs k) : orderFault none xs 1 = some (i + 1) := by
  cases i with
  | zero => exact absurd risesAt_zero hfault
  | succ n =>
    cases xs with
    | nil => exact absurd hi (Nat.not_lt_zero _)
    | cons b xs => exact (orderFault_of_first hi hfault hbefore 2).trans (by rw [Nat.add_comm 2 n])

/-! ### Check 2: the header's fields -/

/-- The fields of a mould header lie in their ranges (R56, R65 check 2). -/
def RawHeader.Fits (x : RawHeader) : Prop :=
  x.autoEligible ≤ 1 ∧ 1 ≤ x.k ∧ x.k ≤ 8 ∧ 1 ≤ x.n ∧ x.n ≤ 8 ∧ x.driftShift ≤ 7 ∧ x.driftLimit ≤ 511 ∧ 1 ≤ x.minVibe ∧
  x.minVibe ≤ 255 ∧ x.gapLimit ≤ 255 ∧ 1 ≤ x.w ∧ x.w ≤ 24

/-- The header that a commit writes (R66). -/
def RawHeader.written (x : RawHeader) : MouldHeader where
  serial := x.serial
  autoEligible := x.autoEligible == 1
  k := x.k
  n := x.n
  driftShift := x.driftShift
  driftLimit := x.driftLimit
  minVibe := x.minVibe
  gapLimit := x.gapLimit
  w := x.w

theorem RawHeader.ranges_iff (x : RawHeader) :
    (isYesNo x.autoEligible && inRange 1 8 x.k && inRange 1 8 x.n && inRange 0 7 x.driftShift &&
      inRange 0 511 x.driftLimit && inRange 1 255 x.minVibe && inRange 0 255 x.gapLimit && inRange 1 24 x.w) = true ↔
      x.Fits := by
  simp only [Bool.and_eq_true, inRange_iff, isYesNo_iff, Nat.zero_le, true_and, and_assoc, Fits]

theorem RawHeader.header?_of_fits {x : RawHeader} (h : x.Fits) : x.header? = some x.written :=
  if_pos (x.ranges_iff.mpr h)

theorem RawHeader.header?_of_not_fits {x : RawHeader} (h : ¬x.Fits) : x.header? = none :=
  if_neg (mt x.ranges_iff.mp h)

/-! ### Check 2: the profiles' fields -/

/-- A band place of the mask lies in its ranges (R57, R194). -/
def PlaceFits (mask weight : Nat) (b : Nat × Nat) : Prop := mask / weight % 2 = 1 → b.1 ≤ 2047 ∧ 1 ≤ b.2 ∧ b.2 ≤ 511

/-- The fields of a profile lie in their ranges (R57, R65 check 2; log 11). -/
def RawProfile.Fits (p : RawProfile) : Prop :=
  p.watchPoint ≤ 23 ∧ 1 ≤ p.bandMask ∧ p.bandMask ≤ 15 ∧ PlaceFits p.bandMask 1 p.bands.b1 ∧ PlaceFits p.bandMask 2 p.bands.b2 ∧
  PlaceFits p.bandMask 4 p.bands.b3 ∧ PlaceFits p.bandMask 8 p.bands.b4 ∧ p.hitPresence ≤ 1 ∧
  (p.hitPresence = 1 → p.hitLimit ≤ 254) ∧ p.ringPresence ≤ 1 ∧ (p.ringPresence = 1 → p.ringLo ≤ p.ringHi)

/-- The band that a commit writes at a place (R58, R66). -/
def writtenPlace (mask weight : Nat) (b : Nat × Nat) : Option BandProfile :=
  if mask / weight % 2 = 1 then some { loaded := b.1, current := b.1, tolerance := b.2 } else none

/-- A profile holds a record's values as a commit writes them (R57, R58, R66). -/
def Profile.Spells (q : Profile) (p : RawProfile) : Prop :=
  q.watchPoint.val = p.watchPoint ∧
  q.bands = ⟨writtenPlace p.bandMask 1 p.bands.b1, writtenPlace p.bandMask 2 p.bands.b2, writtenPlace p.bandMask 4 p.bands.b3,
    writtenPlace p.bandMask 8 p.bands.b4⟩ ∧
  q.hitLimit = (if p.hitPresence = 1 then some p.hitLimit else none) ∧
  q.ringWindow = (if p.ringPresence = 1 then some (p.ringLo, p.ringHi) else none) ∧ q.blindStreak = 0

theorem placeOk_iff {mask weight : Nat} {b : Nat × Nat} : placeOk mask weight b = true ↔ PlaceFits mask weight b := by
  simp only [placeOk, PlaceFits, Bool.or_eq_true, beq_iff_eq, Bool.and_eq_true, inRange_iff, Nat.zero_le, true_and]
  rcases Nat.mod_two_eq_zero_or_one (mask / weight) with h | h <;> simp [h]

theorem placeOf_eq (mask weight : Nat) (b : Nat × Nat) : placeOf mask weight b = writtenPlace mask weight b := by
  unfold placeOf writtenPlace
  rcases Nat.mod_two_eq_zero_or_one (mask / weight) with h | h <;> simp [h]

/-- An optional field of a record, by its presence byte. -/
theorem ite_presence {α : Type} {presence : Nat} (h : presence ≤ 1) (x : α) :
    (if presence = 0 then none else some x) = if presence = 1 then some x else none := by
  rcases Nat.le_one_iff_eq_zero_or_eq_one.mp h with h | h <;> simp [h]

theorem presence_iff {presence : Nat} {p : Prop} (h : presence ≤ 1) : presence = 0 ∨ p ↔ (presence = 1 → p) := by
  rcases Nat.le_one_iff_eq_zero_or_eq_one.mp h with h | h <;> simp [h]

theorem RawProfile.fits_iff {p : RawProfile} : p.Fits ↔ p.watchPoint < 24 ∧ p.fieldsOk = true := by
  have hhit : (p.hitPresence ≤ 1 ∧ (p.hitPresence = 0 ∨ p.hitLimit ≤ 254)) ↔
      p.hitPresence ≤ 1 ∧ (p.hitPresence = 1 → p.hitLimit ≤ 254) := and_congr_right presence_iff
  have hring : (p.ringPresence ≤ 1 ∧ (p.ringPresence = 0 ∨ p.ringLo ≤ p.ringHi)) ↔
      p.ringPresence ≤ 1 ∧ (p.ringPresence = 1 → p.ringLo ≤ p.ringHi) := and_congr_right presence_iff
  have hfields : p.fieldsOk = true ↔ 1 ≤ p.bandMask ∧ p.bandMask ≤ 15 ∧ PlaceFits p.bandMask 1 p.bands.b1 ∧
      PlaceFits p.bandMask 2 p.bands.b2 ∧ PlaceFits p.bandMask 4 p.bands.b3 ∧ PlaceFits p.bandMask 8 p.bands.b4 ∧
      (p.hitPresence ≤ 1 ∧ (p.hitPresence = 0 ∨ p.hitLimit ≤ 254)) ∧
      p.ringPresence ≤ 1 ∧ (p.ringPresence = 0 ∨ p.ringLo ≤ p.ringHi) := by
    simp only [fieldsOk, Bool.and_eq_true, Bool.or_eq_true, inRange_iff, isYesNo_iff, placeOk_iff, beq_iff_eq,
      decide_eq_true_eq, Nat.zero_le, true_and, and_assoc]
  rw [hfields, hhit, hring, Nat.lt_succ_iff]
  simp only [Fits, and_assoc]

theorem RawProfile.profile?_of_fits {p : RawProfile} (h : p.Fits) : ∃ q, p.profile? = some q ∧ q.Spells p := by
  obtain ⟨hpoint, hfields⟩ := fits_iff.mp h
  obtain ⟨-, -, -, -, -, -, -, hhit, -, hring, -⟩ := h
  refine ⟨_, (dif_pos hpoint).trans (if_pos hfields), rfl, ?_, ite_presence hhit _, ite_presence hring _, rfl⟩
  simp only [placeOf_eq]

theorem RawProfile.profile?_of_not_fits {p : RawProfile} (h : ¬p.Fits) : p.profile? = none := by
  by_cases hpoint : p.watchPoint < 24
  · exact (dif_pos hpoint).trans (if_neg fun hfields => h (fits_iff.mpr ⟨hpoint, hfields⟩))
  · exact dif_neg hpoint

/-- Profiles in their ranges are written in their order (R66). -/
theorem profilesCommit_of_fits {xs : List RawProfile} (h : ∀ p ∈ xs, p.Fits) (j : Nat) :
    ∃ ps, profilesCommit xs j = .ok ps ∧ List.Forall₂ Profile.Spells ps xs := by
  induction xs generalizing j with
  | nil => exact ⟨[], rfl, .nil⟩
  | cons x xs ih =>
    obtain ⟨hx, hxs⟩ := List.forall_mem_cons.mp h
    obtain ⟨q, hq, hspells⟩ := RawProfile.profile?_of_fits hx
    obtain ⟨ps, hps, hall⟩ := ih hxs (j + 1)
    exact ⟨q :: ps, by rw [profilesCommit, hq, hps], .cons hspells hall⟩

/-- The first profile out of range (R65 check 2). -/
theorem profilesCommit_of_first {xs : List RawProfile} {i : Nat} {p : RawProfile} (hp : xs[i]? = some p) (hfault : ¬p.Fits)
    (hbefore : ∀ (k : Nat) (q : RawProfile), k < i → xs[k]? = some q → q.Fits) (j : Nat) :
    profilesCommit xs j = .error (j + i) := by
  induction xs generalizing i j with
  | nil => cases hp
  | cons x xs ih =>
    cases i with
    | zero =>
      obtain rfl := Option.some.inj hp
      rw [profilesCommit, RawProfile.profile?_of_not_fits hfault]
      rfl
    | succ n =>
      obtain ⟨q, hq, -⟩ := RawProfile.profile?_of_fits (hbefore 0 x (Nat.succ_pos n) rfl)
      have hrest := ih hp (fun k d hk hd => hbefore (k + 1) d (Nat.succ_lt_succ hk) hd) (j + 1)
      rw [profilesCommit, hq, hrest, Nat.add_right_comm, Nat.add_assoc]

/-! ### Checks 1 to 3 in their order -/

section
variable {header : RawHeader} {profiles : List RawProfile}

theorem mouldCommit_of_disorder {i : Nat} (h : orderFault none profiles 1 = some i) :
    mouldCommit header profiles = .error (.watchPointOrder, i) := by
  unfold mouldCommit
  rw [h]

variable (horder : orderFault none profiles 1 = none)
include horder

theorem mouldCommit_of_header (h : ¬header.Fits) : mouldCommit header profiles = .error (.fieldRange, 0) := by
  unfold mouldCommit
  rw [horder, RawHeader.header?_of_not_fits h]

theorem mouldCommit_of_profile (h : header.Fits) {i : Nat} (hp : profilesCommit profiles 1 = .error i) :
    mouldCommit header profiles = .error (.fieldRange, i) := by
  unfold mouldCommit
  rw [horder, RawHeader.header?_of_fits h]
  dsimp only
  rw [hp]

theorem mouldCommit_of_profiles (h : header.Fits) {ps : List Profile} (hp : profilesCommit profiles 1 = .ok ps) :
    mouldCommit header profiles = if header.n < header.k then .error (.kAboveN, 0) else .ok ⟨header.written, ps, 0⟩ := by
  unfold mouldCommit
  rw [horder, RawHeader.header?_of_fits h]
  dsimp only
  rw [hp]
  rfl

end

/-! ### The load -/

/-- What a mould's commit does to the state (R47, R66, R67, R109). -/
theorem State.commitMould_eq (s : State) (slot : Fin 16) (m : MouldRecord) :
    s.commitMould slot m =
      { s with
        moulds := s.moulds.set slot.val (some m) slot.isLt
        suspects := s.suspects.filter fun e => e.slot ≠ slot
        monitor := { s.monitor with state := if s.installed = some slot then .unconfirmed else s.monitor.state } } := by
  have hfilter : (s.suspects.filter fun e => e.slot != slot) = s.suspects.filter fun e => e.slot ≠ slot :=
    List.filter_congr fun e _ => (decide_not (p := e.slot = slot)).symm
  unfold commitMould
  rw [hfilter]
  by_cases h : s.installed = some slot
  · refine (if_pos h).trans ?_
    rw [if_pos h]
    rfl
  · refine (if_neg h).trans ?_
    rw [if_neg h]
    rfl

section
variable {s : State} {l : OpenLoad} {slot : Fin 16} {header : RawHeader} {profiles : List RawProfile}
  (h : l.staging = .mould slot header profiles)
include h

theorem commitLoad_mould_error {reason : Reason} {item : Nat} (herr : mouldCommit header profiles = .error (reason, item)) :
    commitLoad l s = (s.setLoad none, .refused reason item) := by
  unfold commitLoad
  rw [h]
  dsimp only
  rw [herr]

theorem commitLoad_mould_ok {m : MouldRecord} (hok : mouldCommit header profiles = .ok m) :
    commitLoad l s =
      if s.inUse slot then (s.setLoad none, .inUse slot)
      else ((s.setLoad none).commitMould slot m, .done (s.suspects.countP fun e => e.slot == slot)) := by
  unfold commitLoad
  rw [h]
  dsimp only
  rw [hok]

end

/-- Settles O46: by the first check of R65 that fails, or by what the commit writes. -/
theorem mouldCommitReplacesTheSlot : Obligations.MouldCommitReplacesTheSlot := by
  unfold Obligations.MouldCommitReplacesTheSlot
  intro s l slot header profiles hl x ended rises headerFits placeFits fits ordered allFit
  have horder (h : ordered) : orderFault none profiles 1 = none := orderFault_eq_none_of_rises h
  have hcommit (ho : ordered) (hh : headerFits) (hp : allFit) : ∃ ps, List.Forall₂ Profile.Spells ps profiles ∧
      mouldCommit header profiles = if header.n < header.k then .error (.kAboveN, 0) else .ok ⟨header.written, ps, 0⟩ := by
    obtain ⟨ps, hps, hall⟩ := profilesCommit_of_fits hp 1
    exact ⟨ps, hall, mouldCommit_of_profiles (horder ho) hh hps⟩
  refine ⟨fun i hi hfault hbefore => ?_, fun ho hh => ?_, fun i p ho hh hp hfault hbefore => ?_, fun ho hh hp hkn => ?_,
    fun ho hh hp hkn hused => ?_, fun ho hh hp hkn hunused => ?_⟩
  · exact commitLoad_mould_error hl (mouldCommit_of_disorder (orderFault_eq_some_of_first hi hfault hbefore))
  · exact commitLoad_mould_error hl (mouldCommit_of_header (horder ho) hh)
  · have hfirst := profilesCommit_of_first hp hfault hbefore 1
    rw [Nat.add_comm 1 i] at hfirst
    exact commitLoad_mould_error hl (mouldCommit_of_profile (horder ho) hh hfirst)
  · obtain ⟨ps, -, hm⟩ := hcommit ho hh hp
    exact commitLoad_mould_error hl (hm.trans (if_pos hkn))
  · obtain ⟨ps, -, hm⟩ := hcommit ho hh hp
    exact (commitLoad_mould_ok hl (hm.trans (if_neg (Nat.not_lt.mpr hkn)))).trans (if_pos hused)
  · obtain ⟨ps, hall, hm⟩ := hcommit ho hh hp
    have hnot : ¬s.inUse slot = true := by
      rw [hunused]
      exact Bool.false_ne_true
    refine ⟨⟨header.written, ps, 0⟩, ?_, rfl, rfl, hall.length_eq, fun i p q hp hq => ?_⟩
    · refine ((commitLoad_mould_ok hl (hm.trans (if_neg (Nat.not_lt.mpr hkn)))).trans (if_neg hnot)).trans ?_
      rw [State.commitMould_eq]
      rfl
    · obtain ⟨hi, rfl⟩ := List.getElem?_eq_some_iff.mp hp
      obtain ⟨hi', rfl⟩ := List.getElem?_eq_some_iff.mp hq
      exact hall.get hi' hi

end Sys2Proof.Machine
end

section
/-! Load Setup and Load Band Sets (R22, R119, R175, R176). -/

namespace Sys2Proof.Machine

/-! ### The items of a setup record -/

/-- An item of a setup record, numbered as R175 numbers them, lies in its range. -/
def SetupItemFits (b : List Byte) (k : Nat) : Prop :=
  if k ≤ 8 then byteAt b (3 * (k - 1)) ≤ 1 ∧ 5 ≤ halfAt b (3 * (k - 1) + 1) ∧ halfAt b (3 * (k - 1) + 1) ≤ 1000
  else if k = 9 then 10 ≤ halfAt b 24 ∧ halfAt b 24 ≤ 6000
  else if k = 10 then halfAt b 26 ≤ 500
  else if k = 11 then 1 ≤ byteAt b 28 ∧ byteAt b 28 ≤ 15
  else if k = 12 then 10 ≤ halfAt b 29 ∧ halfAt b 29 ≤ 2000
  else if k = 13 then 100 ≤ halfAt b 31 ∧ halfAt b 31 ≤ 5000
  else if k = 14 then byteAt b 33 ≤ 1
  else if k = 15 then byteAt b 34 ≤ 2
  else if k = 16 then byteAt b 35 ≤ 1
  else if k = 17 then byteAt b 36 ≤ 2
  else byteAt b (19 + k) ≤ 3

/-- The middle items of a setup record, each in its place (R175). -/
theorem setupItems_middle (b : List Byte) {i : Nat} (hi : i < 9) :
    ∃ x, [inRange 10 6000 (halfAt b 24), inRange 0 500 (halfAt b 26), inRange 1 15 (byteAt b 28),
        inRange 10 2000 (halfAt b 29), inRange 100 5000 (halfAt b 31), isYesNo (byteAt b 33), inRange 0 2 (byteAt b 34),
        isYesNo (byteAt b 35), inRange 0 2 (byteAt b 36)][i]? = some x ∧ (x = true ↔ SetupItemFits b (i + 9)) := by
  interval_cases i <;> exact ⟨_, rfl, by simp [SetupItemFits, inRange_iff, isYesNo_iff]⟩

/-- Each item of a setup record is checked in its place (R175). -/
theorem setupItems_getElem? (b : List Byte) {i : Nat} (hi : i < 32) :
    ∃ x, (setupItems b)[i]? = some x ∧ (x = true ↔ SetupItemFits b (i + 1)) := by
  unfold setupItems
  by_cases hpods : i < 8
  · refine ⟨_, by rw [List.append_assoc, List.getElem?_append_left (by simpa using hpods), List.getElem?_map,
      List.getElem?_range hpods]; rfl, ?_⟩
    rw [Bool.and_eq_true, isYesNo_iff, inRange_iff, SetupItemFits, if_pos (Nat.succ_le_of_lt hpods), Nat.add_sub_cancel]
  · obtain ⟨j, rfl⟩ := Nat.exists_eq_add_of_le (Nat.le_of_not_lt hpods)
    by_cases hmiddle : j < 9
    · obtain ⟨x, hx, hfits⟩ := setupItems_middle b hmiddle
      refine ⟨x, ?_, by rw [hfits, Nat.add_comm 8 j]⟩
      rw [List.append_assoc, List.getElem?_append_right (by simp), List.getElem?_append_left (by simpa using hmiddle), ← hx]
      simp
    · obtain ⟨n, rfl⟩ := Nat.exists_eq_add_of_le (Nat.le_of_not_lt hmiddle)
      refine ⟨inRange 0 3 (byteAt b (37 + n)), ?_, ?_⟩
      · rw [List.getElem?_append_right (by simp; omega), List.getElem?_map, List.getElem?_range (by simp; omega)]
        simp only [List.length_append, List.length_map, List.length_range, List.length_cons, List.length_nil, Option.map_some]
        rw [show 8 + (9 + n) - (8 + (0 + 1 + 1 + 1 + 1 + 1 + 1 + 1 + 1 + 1)) = n by omega]
      · have hlast : SetupItemFits b (8 + (9 + n) + 1) ↔ byteAt b (19 + (8 + (9 + n) + 1)) ≤ 3 := by
          unfold SetupItemFits
          rw [if_neg (by omega), if_neg (by omega), if_neg (by omega), if_neg (by omega), if_neg (by omega), if_neg (by omega),
            if_neg (by omega), if_neg (by omega), if_neg (by omega), if_neg (by omega)]
        rw [inRange_iff, hlast, show 19 + (8 + (9 + n) + 1) = 37 + n by omega]
        exact and_iff_right (Nat.zero_le _)

theorem length_setupItems (b : List Byte) : (setupItems b).length = 32 := by
  simp [setupItems]

/-- The first item out of range (R175). -/
theorem setupFault_of_first {b : List Byte} {k : Nat} (h1 : 1 ≤ k) (h32 : k ≤ 32) (hk : ¬SetupItemFits b k)
    (hbefore : ∀ i, 1 ≤ i → i < k → SetupItemFits b i) : setupFault b = some k := by
  obtain ⟨n, rfl⟩ := Nat.exists_eq_add_of_le' h1
  have hfirst : (setupItems b).findIdx? (fun ok => !ok) = some n := by
    refine findIdx?_eq_some_of_first (bad := fun ok => ¬ok = true) (fun ok => by cases ok <;> simp) ?_ fun i x hi hx => ?_
    · obtain ⟨x, hx, hfits⟩ := setupItems_getElem? b h32
      exact ⟨x, hx, mt hfits.mp hk⟩
    · obtain ⟨y, hy, hfits⟩ := setupItems_getElem? b (i := i) (by omega)
      obtain rfl := Option.some.inj (hx.symm.trans hy)
      exact not_not.mpr (hfits.mpr (hbefore (i + 1) (Nat.le_add_left 1 i) (Nat.succ_lt_succ hi)))
  unfold setupFault
  rw [hfirst]
  rfl

theorem setupFault_of_fits {b : List Byte} (h : ∀ k, 1 ≤ k → k ≤ 32 → SetupItemFits b k) : setupFault b = none := by
  have hnone : (setupItems b).findIdx? (fun ok => !ok) = none := by
    refine findIdx?_eq_none_of_forall (bad := fun ok => ¬ok = true) (fun ok => by cases ok <;> simp) fun x hx => ?_
    obtain ⟨i, hi, rfl⟩ := List.getElem_of_mem hx
    have hlt : i < 32 := length_setupItems b ▸ hi
    obtain ⟨y, hy, hfits⟩ := setupItems_getElem? b hlt
    obtain rfl := Option.some.inj ((List.getElem?_eq_getElem hi).symm.trans hy)
    exact not_not.mpr (hfits.mpr (h (i + 1) (Nat.le_add_left 1 i) hlt))
  unfold setupFault
  rw [hnone]
  rfl

/-! ### The setup record a body spells -/

theorem policyOf_mem {x : Nat} (h : x ≤ 2) : (x, policyOf x) ∈ [(0, ForwardPolicy.all), (1, .tagged), (2, .none)] := by
  interval_cases x <;> decide

theorem triggerOf_mem {x : Nat} (h : x ≤ 2) :
    (x, triggerOf x) ∈ [(0, TraceTrigger.manual), (1, .onDeviate), (2, .onConfirm)] := by
  interval_cases x <;> decide

theorem classOf_mem {x : Nat} (h : x ≤ 3) :
    (x, classOf x) ∈ [(0, CondClass.none), (1, .advise), (2, .warn), (3, .stop)] := by
  interval_cases x <;> decide

theorem setupOf_pods (b : List Byte) (p : PodId) :
    (setupOf b).pods[p] = { present := byteAt b (3 * p.val) == 1, limit := halfAt b (3 * p.val + 1) } := by
  fin_cases p <;> rfl

theorem setupOf_classes (b : List Byte) (c : Condition) :
    (setupOf b).classes[c.index] = classOf (byteAt b (37 + c.index.val)) := by
  cases c <;> rfl

/-- A condition's class is the item of its index. -/
theorem SetupItemFits.class {b : List Byte} {c : Condition} (h : SetupItemFits b (18 + c.index.val)) :
    byteAt b (37 + c.index.val) ≤ 3 := by
  cases c <;> exact h

/-! ### Band sets -/

/-- A band of a pair, the pairs counted from 1 and the bands of each from 0 (R176). -/
def pairBand (b : List Byte) (k j : Nat) : Band where
  lower := halfAt b (2 + 17 * (k - 1) + 4 * j + 2 * 0)
  upper := halfAt b (2 + 17 * (k - 1) + 4 * j + 2 * 1)

theorem bandAt_eq (b : List Byte) (k j : Nat) : bandAt b (1 + 17 * (k - 1) + (1 + 4 * j)) = pairBand b k j := by
  unfold bandAt
  rw [show 1 + 17 * (k - 1) + (1 + 4 * j) = 2 + 17 * (k - 1) + 4 * j by omega]
  rfl

theorem pairAt_eq (b : List Byte) (k : Nat) :
    pairAt b (1 + 17 * (k - 1)) =
      ⟨byteAt b (1 + 17 * (k - 1)), ⟨pairBand b k 0, pairBand b k 1, pairBand b k 2, pairBand b k 3⟩⟩ := by
  rw [← bandAt_eq, ← bandAt_eq, ← bandAt_eq, ← bandAt_eq]
  rfl

/-- The slot and the edges of a pair lie in their ranges (R22, R176). -/
def PairFits (b : List Byte) (k : Nat) : Prop :=
  byteAt b (1 + 17 * (k - 1)) < 8 ∧
    ∀ j, j < 4 → 10 ≤ (pairBand b k j).lower ∧ (pairBand b k j).lower < (pairBand b k j).upper ∧ (pairBand b k j).upper ≤ 20000

theorem Band.inRange_iff {x : Band} : x.inRange = true ↔ 10 ≤ x.lower ∧ x.lower < x.upper ∧ x.upper ≤ 20000 := by
  simp only [Band.inRange, Bool.and_eq_true, Machine.inRange_iff, decide_eq_true_eq]
  omega

theorem pairFits_iff (b : List Byte) (k : Nat) : (pairAt b (1 + 17 * (k - 1))).inRange = true ↔ PairFits b k := by
  have hbands (p : Nat → Prop) : (∀ j, j < 4 → p j) ↔ p 0 ∧ p 1 ∧ p 2 ∧ p 3 :=
    ⟨fun h => ⟨h 0 (by omega), h 1 (by omega), h 2 (by omega), h 3 (by omega)⟩, fun ⟨h0, h1, h2, h3⟩ j hj => by
      interval_cases j <;> assumption⟩
  rw [pairAt_eq, PairFits, hbands]
  simp only [BandPair.inRange, Bool.and_eq_true, Band.inRange_iff, decide_eq_true_eq, and_assoc]

theorem length_pairsOf (b : List Byte) : (pairsOf b).length = byteAt b 0 := by
  simp [pairsOf]

theorem getElem?_pairsOf {b : List Byte} {i : Nat} (h : i < byteAt b 0) :
    (pairsOf b)[i]? = some (pairAt b (1 + 17 * i)) := by
  rw [pairsOf, List.getElem?_map, List.getElem?_range h]
  rfl

theorem of_getElem?_pairsOf {b : List Byte} {i : Nat} {d : BandPair} (h : (pairsOf b)[i]? = some d) :
    i < byteAt b 0 ∧ d = pairAt b (1 + 17 * i) := by
  have hlt : i < byteAt b 0 := by
    have hlength := (List.getElem?_eq_some_iff.mp h).1
    rwa [length_pairsOf] at hlength
  exact ⟨hlt, Option.some.inj (h.symm.trans (getElem?_pairsOf hlt))⟩

/-- A pair passes the checks after the pairs before it (R176). -/
def BandPair.Passes (earlier : List BandPair) (x : BandPair) : Prop :=
  x.inRange = true ∧ ¬∃ d ∈ earlier, d.slot = x.slot

section
variable {earlier later : List BandPair} {x : BandPair} {i : Nat}

theorem pairsFault_of_not_inRange (seen : List Nat) (hx : ¬x.inRange = true) :
    pairsFault (x :: later) seen i = some (.fieldRange, i) :=
  if_pos (by simpa using hx)

theorem contains_slots_iff {seen : List Nat} (hseen : ∀ n, n ∈ seen ↔ ∃ d ∈ earlier, d.slot = n) :
    seen.contains x.slot = true ↔ ∃ d ∈ earlier, d.slot = x.slot :=
  List.contains_iff_mem.trans (hseen _)

theorem pairsFault_of_repeated {seen : List Nat} (hseen : ∀ n, n ∈ seen ↔ ∃ d ∈ earlier, d.slot = n) (hx : x.inRange = true)
    (h : ∃ d ∈ earlier, d.slot = x.slot) : pairsFault (x :: later) seen i = some (.duplicateSlot, i) :=
  (if_neg (by rw [hx]; decide)).trans (if_pos ((contains_slots_iff hseen).mpr h))

theorem pairsFault_of_passes {seen : List Nat} (hseen : ∀ n, n ∈ seen ↔ ∃ d ∈ earlier, d.slot = n) (h : x.Passes earlier) :
    pairsFault (x :: later) seen i = pairsFault later (x.slot :: seen) (i + 1) :=
  (if_neg (by rw [h.1]; decide)).trans (if_neg (mt (contains_slots_iff hseen).mp h.2))

end

/-- Pairs that pass, each after those before it, are gone through with their slots noted. -/
theorem pairsFault_append (xs : List BandPair) (h : ∀ pre x post, xs = pre ++ x :: post → x.Passes pre)
    (later : List BandPair) :
    ∃ seen, (∀ n, n ∈ seen ↔ ∃ d ∈ xs, d.slot = n) ∧ pairsFault (xs ++ later) [] 1 = pairsFault later seen (xs.length + 1) := by
  induction xs using List.reverseRecOn generalizing later with
  | nil => exact ⟨[], by simp, rfl⟩
  | append_singleton xs x ih =>
    obtain ⟨seen, hseen, hstep⟩ := ih (fun pre d post hxs => h pre d (post ++ [x]) (by simp [hxs])) (x :: later)
    refine ⟨x.slot :: seen, fun n => ?_, ?_⟩
    · simp only [List.mem_cons, hseen, List.mem_append, List.not_mem_nil, or_false, or_and_right, exists_or, exists_eq_left]
      rw [or_comm, eq_comm]
    · rw [List.append_assoc, List.singleton_append, hstep, pairsFault_of_passes hseen (h xs x [] rfl), List.length_append,
        List.length_singleton]

/-- The first pair that fails is reached with the slots of those before it. -/
theorem pairsFault_reaches {xs : List BandPair} {i : Nat} {x : BandPair} (hx : xs[i]? = some x)
    (h : ∀ (k : Nat) (d : BandPair), k < i → xs[k]? = some d → d.Passes (xs.take k)) :
    ∃ seen, (∀ n, n ∈ seen ↔ ∃ d ∈ xs.take i, d.slot = n) ∧
      pairsFault xs [] 1 = pairsFault (x :: xs.drop (i + 1)) seen (i + 1) := by
  obtain ⟨seen, hseen, hstep⟩ := pairsFault_append _ (fun _ _ _ => of_cut (of_take h)) (x :: xs.drop (i + 1))
  rw [← eq_take_append_cons hx, length_take_of_getElem? hx] at hstep
  exact ⟨seen, hseen, hstep⟩

theorem pairsFault_eq_none {xs : List BandPair} (h : ∀ (k : Nat) (d : BandPair), xs[k]? = some d → d.Passes (xs.take k)) :
    pairsFault xs [] 1 = none := by
  obtain ⟨seen, -, hstep⟩ := pairsFault_append xs (fun _ _ _ => of_cut h) []
  rw [List.append_nil] at hstep
  exact hstep

/-! ### The band set table -/

/-- A pair's band set takes its slot (R176). -/
def placeBandSet (v : Vector (Option BandSet) 8) (x : BandPair) : Vector (Option BandSet) 8 :=
  if h : x.slot < 8 then v.set x.slot (some x.bands) h else v

theorem replaceBandSets_eq (s : State) (pairs : List BandPair) :
    s.replaceBandSets pairs = s.setTables { s.tables with bandSets := pairs.foldl placeBandSet s.tables.bandSets } := rfl

theorem placeBandSet_other {v : Vector (Option BandSet) 8} {x : BandPair} {i : Nat} (hi : i < 8) (h : x.slot ≠ i) :
    (placeBandSet v x)[i] = v[i] := by
  unfold placeBandSet
  split
  · exact Vector.getElem_set_ne _ _ h
  · rfl

theorem placeBandSet_self (v : Vector (Option BandSet) 8) {x : BandPair} (h : x.slot < 8) :
    (placeBandSet v x)[x.slot] = some x.bands := by
  have hplace : placeBandSet v x = v.set x.slot (some x.bands) h := dif_pos h
  simp only [hplace, Vector.getElem_set_self]

theorem foldl_placeBandSet_other (xs : List BandPair) (v : Vector (Option BandSet) 8) {i : Nat} (hi : i < 8)
    (h : ∀ x ∈ xs, x.slot ≠ i) : (xs.foldl placeBandSet v)[i] = v[i] := by
  induction xs generalizing v with
  | nil => rfl
  | cons x xs ih =>
    obtain ⟨hx, hxs⟩ := List.forall_mem_cons.mp h
    exact (ih _ hxs).trans (placeBandSet_other hi hx)

/-- A pair's band set stands in its slot where no later pair names the slot. -/
theorem foldl_placeBandSet_self (pre post : List BandPair) (v : Vector (Option BandSet) 8) {x : BandPair} (h : x.slot < 8)
    (hpost : ∀ d ∈ post, d.slot ≠ x.slot) : ((pre ++ x :: post).foldl placeBandSet v)[x.slot] = some x.bands := by
  rw [List.foldl_append, List.foldl_cons, foldl_placeBandSet_other post _ h hpost, placeBandSet_self _ h]

/-- The band sets of pairs that pass: each named slot has its pair's. -/
theorem foldl_placeBandSet_of_passes {xs : List BandPair} (v : Vector (Option BandSet) 8) {i : Nat} {x : BandPair}
    (h : ∀ (k : Nat) (d : BandPair), xs[k]? = some d → d.Passes (xs.take k)) (hx : xs[i]? = some x) (hslot : x.slot < 8) :
    (xs.foldl placeBandSet v)[x.slot] = some x.bands := by
  have hpost (d : BandPair) (hd : d ∈ xs.drop (i + 1)) : d.slot ≠ x.slot := by
    obtain ⟨j, hj⟩ := List.getElem?_of_mem hd
    rw [List.getElem?_drop] at hj
    exact fun heq => (h _ d hj).2 (exists_mem_take_iff.mpr ⟨i, x, by omega, hx, heq.symm⟩)
  have hcut := foldl_placeBandSet_self (xs.take i) (xs.drop (i + 1)) v hslot hpost
  rwa [← eq_take_append_cons hx] at hcut

/-! ### The two loads -/

section
variable {s : State} {r : Request}

theorem actLoadSetup_of_fault {k : Nat} (h : setupFault r.body = some k) : actLoadSetup r s = (s, .refused .fieldRange k) := by
  unfold actLoadSetup
  rw [h]

theorem actLoadSetup_of_none (h : setupFault r.body = none) : actLoadSetup r s = (s.setSetup (setupOf r.body), .ok .empty) := by
  unfold actLoadSetup
  rw [h]

theorem actLoadBandSets_of_count (h : byteAt r.body 0 = 0 ∨ 8 < byteAt r.body 0) : actLoadBandSets r s = (s, .badArgument) :=
  if_neg (by rw [inRange_iff]; omega)

theorem actLoadBandSets_of_fault (h1 : 1 ≤ byteAt r.body 0) (h8 : byteAt r.body 0 ≤ 8) {reason : Reason} {item : Nat}
    (h : pairsFault (pairsOf r.body) [] 1 = some (reason, item)) : actLoadBandSets r s = (s, .refused reason item) := by
  refine (if_pos (inRange_iff.mpr ⟨h1, h8⟩)).trans ?_
  rw [h]

theorem actLoadBandSets_of_none (h1 : 1 ≤ byteAt r.body 0) (h8 : byteAt r.body 0 ≤ 8)
    (h : pairsFault (pairsOf r.body) [] 1 = none) :
    actLoadBandSets r s = (s.replaceBandSets (pairsOf r.body), .ok .empty) := by
  refine (if_pos (inRange_iff.mpr ⟨h1, h8⟩)).trans ?_
  rw [h]

end

/-- LOAD_SETUP in HALTED: the first item out of range, or the setup record the body spells (R119, R175). -/
theorem loadSetup_spec {s : State} {r : Request} {rest : List Request} (hi : NoIdleWait s) (hl : LinesLaw s)
    (h : Served s .loadSetup r rest) (hgate : gate .haltedOnly s = none) :
    (∀ k, 1 ≤ k → k ≤ 32 → ¬SetupItemFits r.body k → (∀ i, 1 ≤ i → i < k → SetupItemFits r.body i) →
      exec .loadSetup s = .next (s.answeredOnly r rest (.refused .fieldRange k))) ∧
    ((∀ k, 1 ≤ k → k ≤ 32 → SetupItemFits r.body k) →
      exec .loadSetup s =
        .next (State.settle s (((s.popped rest).setSetup (setupOf r.body)).placed (replyTo r (.ok .empty))))) := by
  refine ⟨fun k h1 h32 hk hbefore => ?_, fun hall => ?_⟩
  · exact RequestRow.loadSetup.exec_same hi hl h hgate (actLoadSetup_of_fault (setupFault_of_first h1 h32 hk hbefore))
  · exact RequestRow.loadSetup.exec_effect (t := (s.popped rest).setSetup (setupOf r.body)) (State.popped_noIdleWaitD hi rest)
      h hgate (actLoadSetup_of_none (setupFault_of_fits hall))

theorem State.answeredOnly_trace (s : State) (r : Request) (rest : List Request) (a : Answer) :
    (s.answeredOnly r rest a).trace = s.trace := by
  obtain ⟨own, count, tx, h⟩ := (s.popped rest).placed_frame (replyTo r a)
  unfold State.answeredOnly
  rw [h]
  rfl

/-- The slot of a pair is that of a pair before it (R176). -/
def SlotRepeated (b : List Byte) (k : Nat) : Prop :=
  ∃ i, 1 ≤ i ∧ i < k ∧ byteAt b (1 + 17 * (i - 1)) = byteAt b (1 + 17 * (k - 1))

theorem slotRepeated_iff {b : List Byte} {k : Nat} (hk : k ≤ byteAt b 0) :
    (∃ d ∈ (pairsOf b).take (k - 1), d.slot = (pairAt b (1 + 17 * (k - 1))).slot) ↔ SlotRepeated b k := by
  rw [exists_mem_take_iff]
  constructor
  · rintro ⟨i, d, hlt, hget, hslot⟩
    obtain ⟨-, rfl⟩ := of_getElem?_pairsOf hget
    exact ⟨i + 1, Nat.le_add_left 1 i, by omega, hslot⟩
  · rintro ⟨i, hi, hlt, hslot⟩
    exact ⟨i - 1, _, by omega, getElem?_pairsOf (by omega), hslot⟩

/-- Pairs that pass by their numbers in the body pass by their places in the list. -/
theorem pairsOf_pass {b : List Byte} {m : Nat}
    (h : ∀ k, 1 ≤ k → k ≤ m → k ≤ byteAt b 0 → PairFits b k ∧ ¬SlotRepeated b k) (j : Nat) (d : BandPair) (hj : j < m)
    (hd : (pairsOf b)[j]? = some d) : d.Passes ((pairsOf b).take j) := by
  obtain ⟨hlt, rfl⟩ := of_getElem?_pairsOf hd
  obtain ⟨hfit, hnew⟩ := h (j + 1) (Nat.le_add_left 1 j) hj hlt
  exact ⟨(pairFits_iff b (j + 1)).mpr hfit, mt (slotRepeated_iff (k := j + 1) hlt).mp hnew⟩

/-- The first pair of a body that fails (R176). -/
theorem pairsFault_of_first {b : List Byte} {k : Nat} (h1 : 1 ≤ k) (hk : k ≤ byteAt b 0)
    (hbefore : ∀ i, 1 ≤ i → i < k → PairFits b i ∧ ¬SlotRepeated b i) :
    (¬PairFits b k → pairsFault (pairsOf b) [] 1 = some (.fieldRange, k)) ∧
    (PairFits b k → SlotRepeated b k → pairsFault (pairsOf b) [] 1 = some (.duplicateSlot, k)) := by
  obtain ⟨seen, hseen, hreach⟩ := pairsFault_reaches (getElem?_pairsOf (b := b) (i := k - 1) (by omega))
    (pairsOf_pass fun i hi hlt _ => hbefore i hi (by omega))
  rw [Nat.sub_add_cancel h1] at hreach
  refine ⟨fun hfit => hreach.trans ?_, fun hfit hrepeated => hreach.trans ?_⟩
  · exact pairsFault_of_not_inRange seen (mt (pairFits_iff b k).mp hfit)
  · exact pairsFault_of_repeated hseen ((pairFits_iff b k).mpr hfit) ((slotRepeated_iff hk).mpr hrepeated)

/-- The band set table of a body whose pairs pass: each named slot has its pair's, the others stay (R22, R176). -/
theorem bandSets_of_pass {b : List Byte} (v : Vector (Option BandSet) 8)
    (hall : ∀ k, 1 ≤ k → k ≤ byteAt b 0 → PairFits b k ∧ ¬SlotRepeated b k) :
    (∀ k (h : byteAt b (1 + 17 * (k - 1)) < 8), 1 ≤ k → k ≤ byteAt b 0 →
      ((pairsOf b).foldl placeBandSet v)[byteAt b (1 + 17 * (k - 1))] =
        some ⟨pairBand b k 0, pairBand b k 1, pairBand b k 2, pairBand b k 3⟩) ∧
    ∀ i : Fin 8, (∀ k, 1 ≤ k → k ≤ byteAt b 0 → byteAt b (1 + 17 * (k - 1)) ≠ i.val) →
      ((pairsOf b).foldl placeBandSet v)[i] = v[i] := by
  refine ⟨fun k h h1 hk => ?_, fun i hother => foldl_placeBandSet_other _ _ i.isLt fun d hd => ?_⟩
  · have hset := foldl_placeBandSet_of_passes v
      (fun j d hd => pairsOf_pass (fun i hi _ hle => hall i hi hle) j d (of_getElem?_pairsOf hd).1 hd)
      (getElem?_pairsOf (b := b) (i := k - 1) (by omega)) h
    have hbands : (pairAt b (1 + 17 * (k - 1))).bands = ⟨pairBand b k 0, pairBand b k 1, pairBand b k 2, pairBand b k 3⟩ := by
      rw [pairAt_eq]
    exact hset.trans (congrArg some hbands)
  · obtain ⟨j, hj⟩ := List.getElem?_of_mem hd
    obtain ⟨hlt, rfl⟩ := of_getElem?_pairsOf hj
    exact hother (j + 1) (Nat.le_add_left 1 j) hlt

/-- Settles O42: by the first item, or the first pair, that fails; a load that passes writes what its body spells. -/
theorem setupAndBandSetLoads : Obligations.SetupAndBandSetLoads := by
  unfold Obligations.SetupAndBandSetLoads
  refine ⟨fun s r rest hi hl h hload hw => ?_, fun s r rest hi hl h hload hw => ?_⟩
  · intro byte half ok
    obtain ⟨hfault, hwrites⟩ := loadSetup_spec hi hl h (gate_haltedOnly_of_halted hload hw)
    refine ⟨hfault, fun hall => ⟨setupOf r.body, hwrites hall, setupOf_pods r.body, rfl, rfl, rfl, rfl, rfl, rfl, ?_, rfl, ?_,
      fun c => ?_⟩⟩
    · exact policyOf_mem (hall 15 (by omega) (by omega))
    · exact triggerOf_mem (hall 17 (by omega) (by omega))
    · rw [setupOf_classes]
      have hindex := c.index.isLt
      exact classOf_mem (SetupItemFits.class (hall (18 + c.index.val) (by omega) (by omega)))
  · intro byte half n slot edge fits repeated band
    have hgate := gate_haltedOnly_of_halted hload hw
    refine ⟨fun hcount => ?_, fun h1 h8 => ⟨fun k hk1 hkn hbefore => ?_, fun hall => ?_⟩⟩
    · exact RequestRow.loadBandSets.exec_same hi hl h hgate (actLoadBandSets_of_count hcount)
    · obtain ⟨hrange, hduplicate⟩ := pairsFault_of_first hk1 hkn hbefore
      have hrefused {reason : Reason} (hfault : pairsFault (pairsOf r.body) [] 1 = some (reason, k)) :
          exec .loadBandSets s = .next (s.answeredOnly r rest (.refused reason k)) :=
        RequestRow.loadBandSets.exec_same hi hl h hgate (actLoadBandSets_of_fault h1 h8 hfault)
      exact ⟨fun hfit => hrefused (hrange hfit), fun hfit hrepeated => hrefused (hduplicate hfit hrepeated)⟩
    · have hnone : pairsFault (pairsOf r.body) [] 1 = none := pairsFault_eq_none fun j d hd =>
        pairsOf_pass (fun i hi _ hle => hall i hi hle) j d (of_getElem?_pairsOf hd).1 hd
      have hexec := RequestRow.loadBandSets.exec_setTables (y := s.trace) hi hl h hgate
        (x := { s.tables with bandSets := (pairsOf r.body).foldl placeBandSet s.tables.bandSets }) rfl
        (actLoadBandSets_of_none (s := s.popped rest) h1 h8 hnone)
      refine ⟨(pairsOf r.body).foldl placeBandSet s.tables.bandSets, ?_, bandSets_of_pass s.tables.bandSets hall⟩
      rw [hexec, ← s.answeredOnly_trace r rest (.ok .empty)]
      rfl

end Sys2Proof.Machine
end
